-- ==== Sys2Proof/Word.lean ====
section
/-! DEFINITION. The word types of the block: bytes of a frame, 32-bit registers, 64-bit stimulus words. -/

namespace Sys2Proof

/-- One byte of a frame (10_state.md R34). -/
abbrev Byte := BitVec 8

/-- One 32-bit register, timestamp or duration (10_state.md R22, R23, R42). -/
abbrev Word := BitVec 32

/-- One 64-bit stimulus word (30_encoding.md R101). -/
abbrev StimWord := BitVec 64

end Sys2Proof
end

