-- ==== Sys2Proof/Machine/Rom.lean ====
section
/-! DEFINITION. The constant tables of the block whose contents the spec fixes (10_state.md R41):
`FMT_ROM`, `PRIORITY`, `CH_LUT_A` and `WDIR_ROM`. The OPEN tables are in Config. -/

namespace Sys2Proof.Machine

/-- The six packet formats (44_decoders.md R200). -/
inductive Format where
  | tower
  | rain
  | lightning
  | atlas
  | notos
  | iris
  deriving DecidableEq, Repr

/-- Which channel table a format uses (44_decoders.md R200, R240, R241). -/
inductive ChLut where
  | lutA
  | lutB
  deriving DecidableEq, Repr

/-- One entry of `FMT_ROM` (44_decoders.md R200): id, length, code set, channel table, parity range
(`none` where the format checks no parity) and the exempt byte indices. -/
structure FmtEntry where
  id : BitVec 4
  len : Nat
  codes : List (BitVec 6)
  lut : ChLut
  parity : Option (Nat × Nat)
  exempt : List Nat
  deriving DecidableEq, Repr

/-- `FMT_ROM` (44_decoders.md R200). -/
def fmtRom : Format → FmtEntry
  | .tower => ⟨1, 7, [0x04], .lutA, some (2, 5), []⟩
  | .rain => ⟨2, 8, [0x30], .lutB, some (2, 6), []⟩
  | .lightning => ⟨3, 9, [0x2F], .lutA, some (2, 7), []⟩
  | .atlas => ⟨4, 10, [0x05, 0x06, 0x07, 0x25, 0x26, 0x27], .lutA, some (2, 8), []⟩
  | .notos => ⟨5, 8, [0x20], .lutA, some (2, 6), [2]⟩
  | .iris => ⟨6, 8, [0x31, 0x38], .lutA, none, []⟩

/-- `PRIORITY`, the order in which the decoders are tried (44_decoders.md R202). -/
def priority : List Format := [.tower, .rain, .notos, .iris, .lightning, .atlas]

/-- `CH_LUT_A`: 'C', 'E', 'B', 'A' (44_decoders.md R240). -/
def chLutA : Vector Byte 4 := #v[0x43, 0x45, 0x42, 0x41]

/-- `WDIR_ROM`, in tenths of a degree (44_decoders.md R242). -/
def wdirRom : Vector (BitVec 12) 16 :=
  #v[3150, 2475, 2925, 2700, 3375, 2250, 0, 2025, 675, 1350, 900, 1125, 450, 1575, 225, 1800]

/-- The reference contents of `CH_LUT_B`, 'A', 'B', 'C', 'E' (44_decoders.md R241). -/
def chLutBReference : Vector Byte 4 := #v[0x41, 0x42, 0x43, 0x45]

/-- `MAX_BYTES` (00_scope.md R10). -/
def maxBytes : Nat := 10

/-- `MAX_BITS = 8 * MAX_BYTES` (00_scope.md R10). -/
def maxBits : Nat := 80

/-- `MIN_FMT_BYTES`, the handover threshold of an abort (00_scope.md R10, 42_bit_assembler.md R180). -/
def minFmtBytes : Nat := 6

end Sys2Proof.Machine
end

