-- ==== Sys2Proof/Syntax.lean ====
section
/-! DEFINITION. The operations of the block, one constructor per row of opcode_table.json, in the
table's order (00_scope.md R9, 30_encoding.md R103). -/

namespace Sys2Proof

/-- One operation of the block. The operands of a packet row are the bytes of the packet, `b[0 .. L-1]`
(44_decoders.md R204 to R215; log entry 9). -/
inductive Instr where
  /-- A HOST read with `OFF[0] = 1` (45_host_interface.md R267). `rest` is bits [59:33] of the word, `data` bits [31:0]. -/
  | refusedRdMisalignedBit0 (rest : BitVec 27) (data : Word)
  /-- A HOST read with `OFF[1] = 1`, `OFF[0] = 0` (45_host_interface.md R267). `rest` is bits [59:34]. -/
  | refusedRdMisalignedBit1 (rest : BitVec 26) (data : Word)
  /-- A HOST write with `OFF[0] = 1` (45_host_interface.md R267). -/
  | refusedWrMisalignedBit0 (rest : BitVec 27) (data : Word)
  /-- A HOST write with `OFF[1] = 1`, `OFF[0] = 0` (45_host_interface.md R267). -/
  | refusedWrMisalignedBit1 (rest : BitVec 26) (data : Word)
  /-- The reserved `KIND` 6 and 7 (45_host_interface.md R267). `rest` is bits [60:0]. -/
  | refusedKind6to7 (rest : BitVec 61)
  /-- The reserved `KIND` 8 to 15 (45_host_interface.md R267). `rest` is bits [62:0]. -/
  | refusedKind8to15 (rest : BitVec 63)
  /-- `TICK(k)` (40_edge_capture.md R141). -/
  | tick (k : Word)
  /-- `EDGE(lvl)` (40_edge_capture.md R130); `lvl` is true at level 1. -/
  | edge (lvl : Bool)
  /-- `CONSUME` (41_pulse_classifier.md R150). -/
  | consume
  /-- `HW_RESET` (70_reset_and_hazards.md R310). -/
  | hwReset
  /-- Read of `ID`, offset 0x000 (R260). -/
  | rdId
  /-- Read of `CTRL`, offset 0x004 (R260). -/
  | rdCtrl
  /-- Read of `STATUS`, offset 0x008 (R260). -/
  | rdStatus
  /-- Read of `RING_PTR`, offset 0x00C (R260). -/
  | rdRingPtr
  /-- Read of `FILTER_US`, offset 0x010 (R260). -/
  | rdFilterUs
  /-- Read of `SYNC_US`, offset 0x014 (R260). -/
  | rdSyncUs
  /-- Read of `ZERO_US`, offset 0x018 (R260). -/
  | rdZeroUs
  /-- Read of `ONE_US`, offset 0x01C (R260). -/
  | rdOneUs
  /-- Read of `TOL_US`, offset 0x020 (R260). -/
  | rdTolUs
  /-- Read of `SYNC_MIN`, offset 0x024 (R260). -/
  | rdSyncMin
  /-- Read of `TIMER`, offset 0x028 (R260). -/
  | rdTimer
  /-- Read of `PULSE_IN`, offset 0x02C (R260). -/
  | rdPulseIn
  /-- Read of `DEMOD`, offset 0x030 (R260). -/
  | rdDemod
  /-- Read of `PREV_TS`, offset 0x034 (R260). -/
  | rdPrevTs
  /-- Read of `OVF_COUNT`, offset 0x040 (R260). -/
  | rdOvfCount
  /-- Read of `CSUM_ERR_COUNT`, offset 0x044 (R260). -/
  | rdCsumErrCount
  /-- Read of `PAR_ERR_COUNT`, offset 0x048 (R260). -/
  | rdParErrCount
  /-- Read of `FRAME_OK_COUNT`, offset 0x04C (R260). -/
  | rdFrameOkCount
  /-- Read of `RES_SEQ`, offset 0x050 (R260). -/
  | rdResSeq
  /-- Read of `RES0`, offset 0x060 (R260). -/
  | rdRes0
  /-- Read of `RES1`, offset 0x064 (R260). -/
  | rdRes1
  /-- Read of `RES2`, offset 0x068 (R260). -/
  | rdRes2
  /-- Read of `RES3`, offset 0x06C (R260). -/
  | rdRes3
  /-- Read of `RES4`, offset 0x070 (R260). -/
  | rdRes4
  /-- Read of `RES5`, offset 0x074 (R260). -/
  | rdRes5
  /-- Read of `FRAME0`, offset 0x080 (R260). -/
  | rdFrame0
  /-- Read of `FRAME1`, offset 0x084 (R260). -/
  | rdFrame1
  /-- Read of `FRAME2`, offset 0x088 (R260). -/
  | rdFrame2
  /-- Read of `RING_DATA[i]`, offset 0x1000 + 4*i (R260). -/
  | rdRingData (i : BitVec 10)
  /-- Read of a reserved offset (R260). -/
  | rdReserved (off : BitVec 13)
  /-- Write of `ID`, offset 0x000 (R266, ignored). -/
  | wrId (v : Word)
  /-- Write of `CTRL`, offset 0x004 (R261). -/
  | wrCtrl (v : Word)
  /-- Write of `STATUS`, offset 0x008 (R262). -/
  | wrStatus (v : Word)
  /-- Write of `RING_PTR`, offset 0x00C (R266, ignored). -/
  | wrRingPtr (v : Word)
  /-- Write of `FILTER_US`, offset 0x010 (R263). -/
  | wrFilterUs (v : Word)
  /-- Write of `SYNC_US`, offset 0x014 (R263). -/
  | wrSyncUs (v : Word)
  /-- Write of `ZERO_US`, offset 0x018 (R263). -/
  | wrZeroUs (v : Word)
  /-- Write of `ONE_US`, offset 0x01C (R263). -/
  | wrOneUs (v : Word)
  /-- Write of `TOL_US`, offset 0x020 (R263). -/
  | wrTolUs (v : Word)
  /-- Write of `SYNC_MIN`, offset 0x024 (R263). -/
  | wrSyncMin (v : Word)
  /-- Write of `TIMER`, offset 0x028 (R266, ignored). -/
  | wrTimer (v : Word)
  /-- Write of `PULSE_IN`, offset 0x02C (R265). -/
  | wrPulseIn (v : Word)
  /-- Write of `DEMOD`, offset 0x030 (R266, ignored). -/
  | wrDemod (v : Word)
  /-- Write of `PREV_TS`, offset 0x034 (R266, ignored). -/
  | wrPrevTs (v : Word)
  /-- Write of `OVF_COUNT`, offset 0x040 (R264). -/
  | wrOvfCount (v : Word)
  /-- Write of `CSUM_ERR_COUNT`, offset 0x044 (R264). -/
  | wrCsumErrCount (v : Word)
  /-- Write of `PAR_ERR_COUNT`, offset 0x048 (R264). -/
  | wrParErrCount (v : Word)
  /-- Write of `FRAME_OK_COUNT`, offset 0x04C (R264). -/
  | wrFrameOkCount (v : Word)
  /-- Write of `RES_SEQ`, offset 0x050 (R266, ignored). -/
  | wrResSeq (v : Word)
  /-- Write of `RES0`, offset 0x060 (R266, ignored). -/
  | wrRes0 (v : Word)
  /-- Write of `RES1`, offset 0x064 (R266, ignored). -/
  | wrRes1 (v : Word)
  /-- Write of `RES2`, offset 0x068 (R266, ignored). -/
  | wrRes2 (v : Word)
  /-- Write of `RES3`, offset 0x06C (R266, ignored). -/
  | wrRes3 (v : Word)
  /-- Write of `RES4`, offset 0x070 (R266, ignored). -/
  | wrRes4 (v : Word)
  /-- Write of `RES5`, offset 0x074 (R266, ignored). -/
  | wrRes5 (v : Word)
  /-- Write of `FRAME0`, offset 0x080 (R266, ignored). -/
  | wrFrame0 (v : Word)
  /-- Write of `FRAME1`, offset 0x084 (R266, ignored). -/
  | wrFrame1 (v : Word)
  /-- Write of `FRAME2`, offset 0x088 (R266, ignored). -/
  | wrFrame2 (v : Word)
  /-- Write of `RING_DATA[i]`, ignored (R266). -/
  | wrRingData (i : BitVec 10) (v : Word)
  /-- Write of a reserved offset, ignored (R266). -/
  | wrReserved (off : BitVec 13) (v : Word)
  /-- The packet row `PKT_TOWER` tried on the bytes `bs` (44_decoders.md R204). -/
  | pktTower (bs : List Byte)
  /-- The packet row `PKT_RAIN` tried on the bytes `bs` (44_decoders.md R205). -/
  | pktRain (bs : List Byte)
  /-- The packet row `PKT_LTNG` tried on the bytes `bs` (44_decoders.md R206). -/
  | pktLtng (bs : List Byte)
  /-- The packet row `PKT_ATLAS_05` tried on the bytes `bs` (44_decoders.md R207). -/
  | pktAtlas05 (bs : List Byte)
  /-- The packet row `PKT_ATLAS_06` tried on the bytes `bs` (44_decoders.md R208). -/
  | pktAtlas06 (bs : List Byte)
  /-- The packet row `PKT_ATLAS_07` tried on the bytes `bs` (44_decoders.md R209). -/
  | pktAtlas07 (bs : List Byte)
  /-- The packet row `PKT_ATLAS_25` tried on the bytes `bs` (44_decoders.md R210). -/
  | pktAtlas25 (bs : List Byte)
  /-- The packet row `PKT_ATLAS_26` tried on the bytes `bs` (44_decoders.md R211). -/
  | pktAtlas26 (bs : List Byte)
  /-- The packet row `PKT_ATLAS_27` tried on the bytes `bs` (44_decoders.md R212). -/
  | pktAtlas27 (bs : List Byte)
  /-- The packet row `PKT_NOTOS` tried on the bytes `bs` (44_decoders.md R213). -/
  | pktNotos (bs : List Byte)
  /-- The packet row `PKT_IRIS_31` tried on the bytes `bs` (44_decoders.md R214). -/
  | pktIris31 (bs : List Byte)
  /-- The packet row `PKT_IRIS_38` tried on the bytes `bs` (44_decoders.md R215). -/
  | pktIris38 (bs : List Byte)
  deriving DecidableEq, Repr

end Sys2Proof
end

