-- ==== Sys2Proof/Decode.lean ====
section
/-! DEFINITION. The decoder and the encoder of the block's two encodings: the 64-bit stimulus word
(30_encoding.md R101) and the packet, whose opcode is `b[2][5:0]` and whose operands are its bytes
(R84, opcode_table.json `packet` rows). -/

namespace Sys2Proof

/-- An encoded operation: a stimulus word, or the bytes of a packet. -/
inductive Code where
  | stimulus (w : StimWord)
  | frame (bs : List Byte)
  deriving DecidableEq, Repr

/-- Why an encoding is no operation. Safe: the word is refused (45_host_interface.md R267). -/
inductive Reject where
  /-- A stimulus word with a 1 in [59:45] (30_encoding.md R101). -/
  | reservedBits
  /-- A stimulus word with a 1 in a field that R101 wants 0 for its `KIND`. -/
  | unusedField
  /-- A frame whose length and `MTYPE` select no format: "no match" (30_encoding.md R91). -/
  | noMatch
  deriving DecidableEq, Repr

/-- `KIND`, bits [63:60] (30_encoding.md R101). -/
def stimKind (w : StimWord) : BitVec 4 := w.extractLsb 63 60

/-- Bits [59:45], which must be 0 (30_encoding.md R101). -/
def stimZero (w : StimWord) : BitVec 15 := w.extractLsb 59 45

/-- `OFF`, bits [44:32] (30_encoding.md R101). -/
def stimOff (w : StimWord) : BitVec 13 := w.extractLsb 44 32

/-- `DATA`, bits [31:0] (30_encoding.md R101). -/
def stimData (w : StimWord) : Word := w.extractLsb 31 0

/-- The `mmio-rd` rows with an offset of their own (10_state.md R42, opcode_table.json). -/
def readRows : List (BitVec 13 × Instr) :=
  [(0x000, .rdId), (0x004, .rdCtrl), (0x008, .rdStatus), (0x00C, .rdRingPtr),
   (0x010, .rdFilterUs), (0x014, .rdSyncUs), (0x018, .rdZeroUs), (0x01C, .rdOneUs),
   (0x020, .rdTolUs), (0x024, .rdSyncMin), (0x028, .rdTimer), (0x02C, .rdPulseIn),
   (0x030, .rdDemod), (0x034, .rdPrevTs), (0x040, .rdOvfCount), (0x044, .rdCsumErrCount),
   (0x048, .rdParErrCount), (0x04C, .rdFrameOkCount), (0x050, .rdResSeq), (0x060, .rdRes0),
   (0x064, .rdRes1), (0x068, .rdRes2), (0x06C, .rdRes3), (0x070, .rdRes4),
   (0x074, .rdRes5), (0x080, .rdFrame0), (0x084, .rdFrame1), (0x088, .rdFrame2)]

/-- The `mmio-wr` rows with an offset of their own (10_state.md R42, opcode_table.json). -/
def writeRows : List (BitVec 13 × (Word → Instr)) :=
  [(0x000, .wrId), (0x004, .wrCtrl), (0x008, .wrStatus), (0x00C, .wrRingPtr),
   (0x010, .wrFilterUs), (0x014, .wrSyncUs), (0x018, .wrZeroUs), (0x01C, .wrOneUs),
   (0x020, .wrTolUs), (0x024, .wrSyncMin), (0x028, .wrTimer), (0x02C, .wrPulseIn),
   (0x030, .wrDemod), (0x034, .wrPrevTs), (0x040, .wrOvfCount), (0x044, .wrCsumErrCount),
   (0x048, .wrParErrCount), (0x04C, .wrFrameOkCount), (0x050, .wrResSeq), (0x060, .wrRes0),
   (0x064, .wrRes1), (0x068, .wrRes2), (0x06C, .wrRes3), (0x070, .wrRes4),
   (0x074, .wrRes5), (0x080, .wrFrame0), (0x084, .wrFrame1), (0x088, .wrFrame2)]

/-- The row of an aligned read: the register's, else the `RING_DATA` window's, else the reserved one
(30_encoding.md R103: a specific row wins over `reserved`). -/
def readRow (off : BitVec 13) : Instr :=
  match readRows.lookup off with
  | some i => i
  | none => if off.getLsbD 12 then .rdRingData (off.extractLsb 11 2) else .rdReserved off

/-- The row of an aligned write (30_encoding.md R103). -/
def writeRow (off : BitVec 13) (v : Word) : Instr :=
  match writeRows.lookup off with
  | some i => i v
  | none => if off.getLsbD 12 then .wrRingData (off.extractLsb 11 2) v else .wrReserved off v

/-- `KIND = 0`, `TICK`: only `DATA` is an operand (30_encoding.md R101). -/
def decodeTick (w : StimWord) : Except Reject Instr :=
  if stimZero w ≠ 0 then .error .reservedBits
  else if stimOff w ≠ 0 then .error .unusedField
  else .ok (.tick (stimData w))

/-- `KIND = 1`, `EDGE`: only `DATA[0]` is an operand (30_encoding.md R101). -/
def decodeEdge (w : StimWord) : Except Reject Instr :=
  if stimZero w ≠ 0 then .error .reservedBits
  else if stimOff w ≠ 0 then .error .unusedField
  else if (stimData w).extractLsb 31 1 ≠ 0 then .error .unusedField
  else .ok (.edge ((stimData w).getLsbD 0))

/-- `KIND = 2` and `KIND = 5`: no operand (30_encoding.md R101). -/
def decodePlain (i : Instr) (w : StimWord) : Except Reject Instr :=
  if stimZero w ≠ 0 then .error .reservedBits
  else if stimOff w ≠ 0 then .error .unusedField
  else if stimData w ≠ 0 then .error .unusedField
  else .ok i

/-- `KIND = 3`, a HOST read: the refused rows come first in the file (30_encoding.md R103). -/
def decodeRead (w : StimWord) : Except Reject Instr :=
  if (stimOff w).getLsbD 0 then
    .ok (.refusedRdMisalignedBit0 (w.extractLsb 59 33) (stimData w))
  else if (stimOff w).getLsbD 1 then
    .ok (.refusedRdMisalignedBit1 (w.extractLsb 59 34) (stimData w))
  else if stimZero w ≠ 0 then .error .reservedBits
  else if stimData w ≠ 0 then .error .unusedField
  else .ok (readRow (stimOff w))

/-- `KIND = 4`, a HOST write: the refused rows come first in the file (30_encoding.md R103). -/
def decodeWrite (w : StimWord) : Except Reject Instr :=
  if (stimOff w).getLsbD 0 then
    .ok (.refusedWrMisalignedBit0 (w.extractLsb 59 33) (stimData w))
  else if (stimOff w).getLsbD 1 then
    .ok (.refusedWrMisalignedBit1 (w.extractLsb 59 34) (stimData w))
  else if stimZero w ≠ 0 then .error .reservedBits
  else .ok (writeRow (stimOff w) (stimData w))

/-- The operation a stimulus word stands for (30_encoding.md R101, R103). -/
def decodeStimulus (w : StimWord) : Except Reject Instr :=
  if w.getLsbD 63 then .ok (.refusedKind8to15 (w.extractLsb 62 0))
  else if stimKind w = 0 then decodeTick w
  else if stimKind w = 1 then decodeEdge w
  else if stimKind w = 2 then decodePlain .consume w
  else if stimKind w = 3 then decodeRead w
  else if stimKind w = 4 then decodeWrite w
  else if stimKind w = 5 then decodePlain .hwReset w
  else .ok (.refusedKind6to7 (w.extractLsb 60 0))

/-- One `packet` row of opcode_table.json: its format, its `MTYPE` and its constructor. -/
structure PacketRow where
  fmt : Machine.Format
  code : BitVec 6
  build : List Byte → Instr

/-- The `packet` rows, in the table's order (opcode_table.json; 30_encoding.md R85 to R90). -/
def packetRows : List PacketRow :=
  [⟨.tower, 0x04, .pktTower⟩,
   ⟨.rain, 0x30, .pktRain⟩,
   ⟨.lightning, 0x2F, .pktLtng⟩,
   ⟨.atlas, 0x05, .pktAtlas05⟩,
   ⟨.atlas, 0x06, .pktAtlas06⟩,
   ⟨.atlas, 0x07, .pktAtlas07⟩,
   ⟨.atlas, 0x25, .pktAtlas25⟩,
   ⟨.atlas, 0x26, .pktAtlas26⟩,
   ⟨.atlas, 0x27, .pktAtlas27⟩,
   ⟨.notos, 0x20, .pktNotos⟩,
   ⟨.iris, 0x31, .pktIris31⟩,
   ⟨.iris, 0x38, .pktIris38⟩]

/-- `MTYPE`, the low six bits of byte 2 (30_encoding.md R84). -/
def mtype (bs : List Byte) : BitVec 6 := (bs.getD 2 0).extractLsb 5 0

/-- The packet row a frame of complete bytes stands for: its length and its `MTYPE` select at most one
(30_encoding.md R91). -/
def decodeFrame (bs : List Byte) : Except Reject Instr :=
  match packetRows.find? (fun r => (Machine.fmtRom r.fmt).len == bs.length && r.code == mtype bs) with
  | some r => .ok (r.build bs)
  | none => .error .noMatch

/-- The decoder, total on every stimulus word and every sequence of bytes. -/
def decode : Code → Except Reject Instr
  | .stimulus w => decodeStimulus w
  | .frame bs => decodeFrame bs

/-- A stimulus word with the fields of 30_encoding.md R101, zero in [59:45]. -/
def stim (kind : BitVec 4) (off : BitVec 13) (data : Word) : Code :=
  .stimulus (kind ++ 0#15 ++ off ++ data)

/-- A stimulus word with every bit below `KIND` given. -/
def rawStim (kind : BitVec 4) (rest : BitVec 60) : Code := .stimulus (kind ++ rest)

/-- The encoder: the word, or the bytes, of a well-formed operation (30_encoding.md R101, R102). -/
def encode : Instr → Code
  | .refusedRdMisalignedBit0 rest data => rawStim 3#4 (rest ++ 1#1 ++ data)
  | .refusedRdMisalignedBit1 rest data => rawStim 3#4 (rest ++ 1#1 ++ 0#1 ++ data)
  | .refusedWrMisalignedBit0 rest data => rawStim 4#4 (rest ++ 1#1 ++ data)
  | .refusedWrMisalignedBit1 rest data => rawStim 4#4 (rest ++ 1#1 ++ 0#1 ++ data)
  | .refusedKind6to7 rest => .stimulus (3#3 ++ rest)
  | .refusedKind8to15 rest => .stimulus (1#1 ++ rest)
  | .tick k => stim 0 0 k
  | .edge lvl => stim 1 0 (if lvl then 1 else 0)
  | .consume => stim 2 0 0
  | .hwReset => stim 5 0 0
  | .rdId => stim 3 0x000 0
  | .rdCtrl => stim 3 0x004 0
  | .rdStatus => stim 3 0x008 0
  | .rdRingPtr => stim 3 0x00C 0
  | .rdFilterUs => stim 3 0x010 0
  | .rdSyncUs => stim 3 0x014 0
  | .rdZeroUs => stim 3 0x018 0
  | .rdOneUs => stim 3 0x01C 0
  | .rdTolUs => stim 3 0x020 0
  | .rdSyncMin => stim 3 0x024 0
  | .rdTimer => stim 3 0x028 0
  | .rdPulseIn => stim 3 0x02C 0
  | .rdDemod => stim 3 0x030 0
  | .rdPrevTs => stim 3 0x034 0
  | .rdOvfCount => stim 3 0x040 0
  | .rdCsumErrCount => stim 3 0x044 0
  | .rdParErrCount => stim 3 0x048 0
  | .rdFrameOkCount => stim 3 0x04C 0
  | .rdResSeq => stim 3 0x050 0
  | .rdRes0 => stim 3 0x060 0
  | .rdRes1 => stim 3 0x064 0
  | .rdRes2 => stim 3 0x068 0
  | .rdRes3 => stim 3 0x06C 0
  | .rdRes4 => stim 3 0x070 0
  | .rdRes5 => stim 3 0x074 0
  | .rdFrame0 => stim 3 0x080 0
  | .rdFrame1 => stim 3 0x084 0
  | .rdFrame2 => stim 3 0x088 0
  | .rdRingData i => stim 3 (1#1 ++ i ++ 0#2) 0
  | .rdReserved off => stim 3 off 0
  | .wrId v => stim 4 0x000 v
  | .wrCtrl v => stim 4 0x004 v
  | .wrStatus v => stim 4 0x008 v
  | .wrRingPtr v => stim 4 0x00C v
  | .wrFilterUs v => stim 4 0x010 v
  | .wrSyncUs v => stim 4 0x014 v
  | .wrZeroUs v => stim 4 0x018 v
  | .wrOneUs v => stim 4 0x01C v
  | .wrTolUs v => stim 4 0x020 v
  | .wrSyncMin v => stim 4 0x024 v
  | .wrTimer v => stim 4 0x028 v
  | .wrPulseIn v => stim 4 0x02C v
  | .wrDemod v => stim 4 0x030 v
  | .wrPrevTs v => stim 4 0x034 v
  | .wrOvfCount v => stim 4 0x040 v
  | .wrCsumErrCount v => stim 4 0x044 v
  | .wrParErrCount v => stim 4 0x048 v
  | .wrFrameOkCount v => stim 4 0x04C v
  | .wrResSeq v => stim 4 0x050 v
  | .wrRes0 v => stim 4 0x060 v
  | .wrRes1 v => stim 4 0x064 v
  | .wrRes2 v => stim 4 0x068 v
  | .wrRes3 v => stim 4 0x06C v
  | .wrRes4 v => stim 4 0x070 v
  | .wrRes5 v => stim 4 0x074 v
  | .wrFrame0 v => stim 4 0x080 v
  | .wrFrame1 v => stim 4 0x084 v
  | .wrFrame2 v => stim 4 0x088 v
  | .wrRingData i v => stim 4 (1#1 ++ i ++ 0#2) v
  | .wrReserved off v => stim 4 off v
  | .pktTower bs => .frame bs
  | .pktRain bs => .frame bs
  | .pktLtng bs => .frame bs
  | .pktAtlas05 bs => .frame bs
  | .pktAtlas06 bs => .frame bs
  | .pktAtlas07 bs => .frame bs
  | .pktAtlas25 bs => .frame bs
  | .pktAtlas26 bs => .frame bs
  | .pktAtlas27 bs => .frame bs
  | .pktNotos bs => .frame bs
  | .pktIris31 bs => .frame bs
  | .pktIris38 bs => .frame bs

/-- The shortest length at which a frame whose byte 2 is `b2` has a packet row; the twelve codes are
distinct, so it is the only one (30_encoding.md R91). -/
def packetLen (b2 : Byte) : Option Nat :=
  (packetRows.find? (fun r => r.code == b2.extractLsb 5 0)).map (fun r => (Machine.fmtRom r.fmt).len)

/-- The frame a `packet` row's table word stands for: byte 2 is the word, every other byte 0, and the
length is its format's (log entry 10). -/
def tableFrame (w : Nat) : Option (List Byte) :=
  (packetLen (BitVec.ofNat 8 w)).map
    (fun n => [0, 0, BitVec.ofNat 8 w] ++ List.replicate (n - 3) 0)

/-- The operation the decoder reads from a table word: a stimulus word has 64 bits, a packet row gives
byte 2 of the frame. -/
def decodeTableWord (nbits w : Nat) : Option Instr :=
  if nbits < 64 then
    match tableFrame w with
    | some bs => (decode (.frame bs)).toOption
    | none => none
  else (decode (.stimulus (BitVec.ofNat 64 w))).toOption

end Sys2Proof
end

