-- ==== Sys2Proof/Config.lean ====
section
/-! DEFINITION. What an implementation fixes: the OPEN parameters of 00_scope.md R10. Each is an
opaque constant, shaped so that exactly the values the spec allows are possible; nothing in Lean can
evaluate one. `Params` is the same information as plain data, which State carries unchanged, so that a
statement over every state is a statement over every value of the parameters (log entry 2). -/

namespace Sys2Proof

/-- The OPEN parameters that change the block's behaviour or its records (00_scope.md R10,
92_eei_decisions.md section 6). -/
structure Params where
  /-- `RING_LOG2 - 1`: `RING_LOG2` is an integer in 1..10. -/
  ringLog2Pred : Fin 10
  /-- `CH_LUT_B`, four ASCII letters indexed by `CH_CODE` (44_decoders.md R241). -/
  chLutB : Vector Byte 4
  /-- `LDIST_ROM[i] - 2`: every entry is an integer in 2..40 (44_decoders.md R243). -/
  ldistPred : Vector (Fin 39) 32
  deriving DecidableEq, Repr

/-- `RING_LOG2`, 1..10 (00_scope.md R10). -/
def Params.ringLog2 (p : Params) : Nat := p.ringLog2Pred.val + 1

/-- `RING_SIZE = 2^RING_LOG2` (00_scope.md R10). -/
def Params.ringSize (p : Params) : Nat := 2 ^ p.ringLog2

/-- `LDIST_ROM[idx]`, six bits, 2..40 (44_decoders.md R243). -/
def Params.distKm (p : Params) (idx : BitVec 5) : BitVec 6 :=
  BitVec.ofNat 6 ((p.ldistPred[idx.toNat]?.getD 0).val + 2)

/-- Which neighbour a value between two numbers of a floating-point format becomes. -/
inductive Rounding where
  | tiesToEven
  | tiesToAway
  | towardZero
  | towardPositive
  | towardNegative
  deriving DecidableEq, Repr, Inhabited

/-- A floating-point format, the kind of value `TEMP_FLOAT_FORMAT` has (44_decoders.md R220,
92_eei_decisions.md section 6): radix, digits, exponent range and rounding, each shaped so that every
value makes sense. That these make up a format is the model's choice (log entry 18). -/
structure FloatFormat where
  /-- The radix less two. -/
  radixPred : Nat
  /-- The number of digits of the significand less one. -/
  digitsPred : Nat
  /-- The exponent of the least normal number. -/
  minExp : Int
  /-- The exponent of the largest numbers, above `minExp`. -/
  expSpan : Nat
  /-- How a result between two numbers is rounded. -/
  rounding : Rounding
  deriving DecidableEq, Repr, Inhabited

namespace Config

/-- An ASCII letter, numbered: upper case first, then lower case (log entry 3). -/
def letter (i : Fin 52) : Byte :=
  if i.val < 26 then BitVec.ofNat 8 (0x41 + i.val) else BitVec.ofNat 8 (0x61 + (i.val - 26))

/-- OPEN `RING_LOG2`, less one (00_scope.md R10, 92_eei_decisions.md D3). -/
opaque ringLog2Pred : Fin 10

/-- OPEN `CH_LUT_B` before the constraint that it differs from `CH_LUT_A` (92_eei_decisions.md D26). -/
opaque chLutBRaw : Vector (Fin 52) 4

/-- OPEN `LDIST_ROM`, each entry less two (92_eei_decisions.md D35). -/
opaque ldistPred : Vector (Fin 39) 32

/-- OPEN `BASE`, as a multiple of 0x2000 (20_memory.md R74). The stimulus words carry offsets, so no
step uses it (log entry 11). -/
opaque basePage : Nat

/-- OPEN `NOTOS_WIND_SCALE`, the physical wind speed of one raw unit (44_decoders.md R221). -/
opaque notosWindScale : Rat

/-- OPEN `ATLAS_WIND_SCALE` (44_decoders.md R221). -/
opaque atlasWindScale : Rat

/-- OPEN `IRIS_WIND_SCALE` (44_decoders.md R221). -/
opaque irisWindScale : Rat

/-- OPEN `ATLAS_RAIN_SCALE` (44_decoders.md R221). -/
opaque atlasRainScale : Rat

/-- OPEN `IRIS_RAIN_SCALE` (44_decoders.md R221). -/
opaque irisRainScale : Rat

/-- OPEN `TEMP_FLOAT_FORMAT`, the format in which a downstream converter reproduces the source's
temperatures (00_scope.md R10, 44_decoders.md R220, 90_conflicts.md C8; log entry 18). -/
opaque tempFloatFormat : FloatFormat

/-- `CH_LUT_B`: any four letters but the sequence of `CH_LUT_A` (44_decoders.md R241). Where the raw
letters spell `CH_LUT_A`, the reference contents stand, so exactly the allowed sequences are possible. -/
def chLutB : Vector Byte 4 :=
  if chLutBRaw.map letter = Machine.chLutA then Machine.chLutBReference else chLutBRaw.map letter

/-- `BASE`, aligned to 0x2000 (20_memory.md R74). -/
def base : Nat := 0x2000 * basePage

/-- The parameters of this implementation: every one unconstrained within the spec's bounds. -/
def params : Params := ⟨ringLog2Pred, chLutB, ldistPred⟩

end Config

end Sys2Proof
end

