-- ==== Sys2Proof/Machine/Record.lean ====
section
/-! DEFINITION. The output record: its fields (30_encoding.md R110), the `PRESENT` bits (R111) and the
six words it is packed into (R112). -/

namespace Sys2Proof.Machine

/-- The record of an accepted decode (30_encoding.md R110). A field the format does not carry is 0. -/
structure Rec where
  fmt : BitVec 4 := 0
  mtype : BitVec 6 := 0
  chCode : BitVec 2 := 0
  chChar : Byte := 0
  batt : BitVec 1 := 0
  len : BitVec 4 := 0
  addr : BitVec 14 := 0
  hum : BitVec 7 := 0
  tempRaw : BitVec 12 := 0
  wspdRaw : BitVec 8 := 0
  strikes : BitVec 8 := 0
  rainCnt : BitVec 21 := 0
  distIdx : BitVec 5 := 0
  distKm : BitVec 6 := 0
  rfi : BitVec 1 := 0
  wdirRaw : BitVec 10 := 0
  wdirD10 : BitVec 14 := 0
  uv : BitVec 4 := 0
  luxRaw : BitVec 14 := 0
  present : BitVec 7 := 0
  deriving DecidableEq, Repr

/-- The six 32-bit words of the result latch and of the record port (30_encoding.md R112). -/
structure RecWords where
  w0 : Word
  w1 : Word
  w2 : Word
  w3 : Word
  w4 : Word
  w5 : Word
  deriving DecidableEq, Repr

/-- The latch after reset (10_state.md R37). -/
def RecWords.zero : RecWords := ⟨0, 0, 0, 0, 0, 0⟩

/-- `PRESENT` bit 0, TEMP (30_encoding.md R110). -/
def presentTemp : BitVec 7 := 0x01
/-- `PRESENT` bit 1, HUM (30_encoding.md R110). -/
def presentHum : BitVec 7 := 0x02
/-- `PRESENT` bit 2, RAIN (30_encoding.md R110). -/
def presentRain : BitVec 7 := 0x04
/-- `PRESENT` bit 3, WSPD (30_encoding.md R110). -/
def presentWspd : BitVec 7 := 0x08
/-- `PRESENT` bit 4, WDIR (30_encoding.md R110). -/
def presentWdir : BitVec 7 := 0x10
/-- `PRESENT` bit 5, UV and LUX (30_encoding.md R110). -/
def presentUvLux : BitVec 7 := 0x20
/-- `PRESENT` bit 6, LTNG (30_encoding.md R110). -/
def presentLtng : BitVec 7 := 0x40

/-- The record as six words (30_encoding.md R112); bits not listed there are 0. -/
def recWords (r : Rec) : RecWords where
  w0 := 0#7 ++ r.len ++ r.batt ++ r.chChar ++ r.chCode ++ r.mtype ++ r.fmt
  w1 := 0#3 ++ r.rfi ++ r.present ++ r.hum ++ r.addr
  w2 := 0#4 ++ r.strikes ++ r.wspdRaw ++ r.tempRaw
  w3 := r.distKm ++ r.distIdx ++ r.rainCnt
  w4 := 0#4 ++ r.uv ++ r.wdirD10 ++ r.wdirRaw
  w5 := 0#18 ++ r.luxRaw

end Sys2Proof.Machine
end

