-- ==== Sys2Proof/Machine/State.lean ====
section
/-! DEFINITION. The state of the block (10_state.md), its outputs (R44), the model's own fields
(INVENTORY.md), the refusals, and the state after hardware reset (70_reset_and_hazards.md R311). -/

namespace Sys2Proof.Machine

/-- The ring RAM as a sparse list of (slot, timestamp) pairs in one canonical form: slots strictly
rising, and no entry equal to 0, what an unlisted slot reads as (10_state.md R23; log entry 5). -/
abbrev Memory := List (Nat × Word)

/-- What a slot that no entry lists reads as: the reset contents (10_state.md R23). -/
def Memory.unlisted : Word := 0

/-- The canonical form from slot `lo` on: every slot at least `lo`, slots strictly rising, no entry
equal to what an unlisted slot reads as. -/
def Memory.wfFrom : Nat → Memory → Bool
  | _, [] => true
  | lo, (i, v) :: m => decide (lo ≤ i) && (v != Memory.unlisted) && Memory.wfFrom (i + 1) m

/-- The canonical form of the ring RAM's list. -/
def Memory.wf (m : Memory) : Bool := Memory.wfFrom 0 m

/-- Every listed slot lies below `n`. -/
def Memory.below (n : Nat) (m : Memory) : Bool := m.all (fun c => decide (c.1 < n))

/-- The error events of 60_exceptions.md R291, codes 0 to 6. No register holds one: they name what a
step did, and `State.events` lists those of the last step (log entry 8). -/
inductive Event where
  | noMatch
  | timingMiss
  | csumFail
  | parityFail
  | ringOverflow
  | frameOk
  | maxReset
  deriving DecidableEq, Repr

/-- The code of an event (60_exceptions.md R291). -/
def Event.code : Event → Nat
  | .noMatch => 0
  | .timingMiss => 1
  | .csumFail => 2
  | .parityFail => 3
  | .ringOverflow => 4
  | .frameOk => 5
  | .maxReset => 6

/-- The state of the block, its outputs, and the stimuli still to come. -/
structure State where
  /-- The OPEN parameters (00_scope.md R10). No step writes them. The model's own field. -/
  params : Params
  /-- `TS` (10_state.md R22). -/
  ts : Word
  /-- `RING` (10_state.md R23). -/
  ring : Memory
  /-- `wr`, the most recently written slot (10_state.md R24; log entry 6). -/
  wr : BitVec 10
  /-- `rd`, the most recently consumed slot (10_state.md R25; log entry 6). -/
  rd : BitVec 10
  /-- `filt`, the filtered mark (10_state.md R28). -/
  filt : Bool
  /-- `ovf_active` (10_state.md R29). -/
  ovfActive : Bool
  /-- `STATUS.OVF` (10_state.md R30). -/
  ovf : Bool
  /-- `OVF_COUNT` (10_state.md R30). -/
  ovfCount : Word
  /-- `prev_ts` (10_state.md R31). -/
  prevTs : Word
  /-- `sync_cnt` (10_state.md R32). -/
  syncCnt : BitVec 8
  /-- `nbits` (10_state.md R33). -/
  nbits : BitVec 7
  /-- `b[0 .. 9]`, the frame buffer (10_state.md R34). -/
  b : Vector Byte 10
  /-- `CSUM_ERR_COUNT` (10_state.md R36). -/
  csumErrCount : Word
  /-- `PAR_ERR_COUNT` (10_state.md R36). -/
  parErrCount : Word
  /-- `FRAME_OK_COUNT` (10_state.md R36). -/
  frameOkCount : Word
  /-- `RES0 .. RES5` (10_state.md R37). -/
  res : RecWords
  /-- `RES_SEQ` (10_state.md R37). -/
  resSeq : Word
  /-- `STATUS.RES_NEW` (10_state.md R37). -/
  resNew : Bool
  /-- `CTRL.CAP_EN` (10_state.md R38). -/
  capEn : Bool
  /-- `CTRL.DEM_EN` (10_state.md R38). -/
  demEn : Bool
  /-- `CTRL.SRC_SEL` (10_state.md R38). -/
  srcSel : Bool
  /-- `CTRL.IE_RES` (10_state.md R38). -/
  ieRes : Bool
  /-- `CTRL.IE_OVF` (10_state.md R38). -/
  ieOvf : Bool
  /-- `FILTER_US` (10_state.md R39). -/
  filterUs : BitVec 16
  /-- `SYNC_US` (10_state.md R39). -/
  syncUs : BitVec 16
  /-- `ZERO_US` (10_state.md R39). -/
  zeroUs : BitVec 16
  /-- `ONE_US` (10_state.md R39). -/
  oneUs : BitVec 16
  /-- `TOL_US` (10_state.md R39). -/
  tolUs : BitVec 16
  /-- `SYNC_MIN` (10_state.md R39). -/
  syncMin : BitVec 8
  /-- The record port in the last step: its six words if `rec_valid` was 1, nothing if it was 0, when
  the data is don't-care (45_host_interface.md R276; log entry 7). -/
  recPort : Option RecWords
  /-- The word the last step returned to HOST, if it was a read (45_host_interface.md R260; log entry 7).
  The model's own field. -/
  rdata : Option Word
  /-- The events the last step raised, in order (60_exceptions.md R291; log entry 8). The model's own
  field. -/
  events : List Event
  /-- The stimulus words still to come (30_encoding.md R101; log entry 1). The model's own field. -/
  stim : List StimWord
  deriving DecidableEq, Repr

/-- The block has no fault, no trap and no stuck state (60_exceptions.md R290, R295), so this type has
no constructor: nothing raises a fault. -/
inductive Fault where
  deriving DecidableEq, Repr

/-- Why a stimulus is refused (45_host_interface.md R267, 41_pulse_classifier.md R150). Every refusal is
safe: the run stops, and nothing is claimed about it. -/
inductive Refusal where
  /-- Raised by an arm of `exec` that has no meaning yet. Safe. -/
  | notModelled (mnemonic : String)
  /-- Raised by the four misaligned rows: `OFF` is no multiple of 4 (20_memory.md R62). Safe. -/
  | misaligned
  /-- Raised by the two reserved `KIND` rows, 6 to 15 (30_encoding.md R101). Safe. -/
  | reservedKind
  /-- Raised by the fetch: a stimulus word with a 1 in [59:45] (30_encoding.md R101). Safe. -/
  | reservedBits
  /-- Raised by the fetch: a stimulus word with a 1 in a field that R101 wants 0. Safe. -/
  | unusedField
  /-- Raised by the fetch where a frame selects no packet row; no stimulus word does. Safe. -/
  | noMatch
  /-- Raised by `CONSUME` where it is not enabled (41_pulse_classifier.md R150). Safe. -/
  | consumeNotEnabled
  deriving DecidableEq, Repr

/-- What one operation answers. -/
abbrev Result := Host.Outcome State Fault Refusal

/-- The state right after hardware reset, for given parameters (70_reset_and_hazards.md R311), with no
stimulus to come. -/
def State.resetWith (p : Params) : State where
  params := p
  ts := 0
  ring := []
  wr := 0
  rd := 0
  filt := false
  ovfActive := false
  ovf := false
  ovfCount := 0
  prevTs := 0
  syncCnt := 0
  nbits := 0
  b := Vector.replicate 10 0
  csumErrCount := 0
  parErrCount := 0
  frameOkCount := 0
  res := RecWords.zero
  resSeq := 0
  resNew := false
  capEn := false
  demEn := false
  srcSel := false
  ieRes := false
  ieOvf := false
  filterUs := 100
  syncUs := 600
  zeroUs := 200
  oneUs := 400
  tolUs := 90
  syncMin := 2
  recPort := none
  rdata := none
  events := []
  stim := []

/-- The machine right after reset (70_reset_and_hazards.md R310, R311), with the implementation's own
parameters. -/
def State.reset : State := State.resetWith Config.params

end Sys2Proof.Machine
end

