-- ==== Sys2Proof/Machine/Ops.lean ====
section
/-! DEFINITION. The named operations over the ring RAM, the cursors, the frame buffer, the counters, the
result latch and the outputs, and the two resets. The block takes no exception and returns from none
(60_exceptions.md R290, R295, R296): no operation here enters or leaves a handler. -/

namespace Sys2Proof.Machine

/-- The value of a slot of the ring RAM. -/
def Memory.read : Memory → Nat → Word
  | [], _ => Memory.unlisted
  | (j, w) :: m, i => if j = i then w else Memory.read m i

/-- The ring RAM with one slot set, in canonical form. -/
def Memory.write : Memory → Nat → Word → Memory
  | [], i, v => if v = Memory.unlisted then [] else [(i, v)]
  | (j, w) :: m, i, v =>
    if i < j then
      if v = Memory.unlisted then (j, w) :: m else (i, v) :: (j, w) :: m
    else if i = j then
      if v = Memory.unlisted then m else (i, v) :: m
    else (j, w) :: Memory.write m i v

/-- The slot index of a cursor, taken modulo `RING_SIZE` (20_memory.md R61). -/
def slotOf (s : State) (c : BitVec 10) : Nat := c.toNat % s.params.ringSize

/-- `RingRead(i)` (20_memory.md R61). -/
def ringRead (s : State) (c : BitVec 10) : Word := Memory.read s.ring (slotOf s c)

/-- `RingWrite(i, v)` (20_memory.md R61). -/
def ringWrite (s : State) (c : BitVec 10) (v : Word) : State :=
  { s with ring := Memory.write s.ring (slotOf s c) v }

/-- `(c + 1) mod RING_SIZE` (40_edge_capture.md R130, 41_pulse_classifier.md R150). -/
def nextSlot (s : State) (c : BitVec 10) : BitVec 10 :=
  BitVec.ofNat 10 ((c.toNat + 1) % s.params.ringSize)

/-- The expected level of a slot, `i mod 2` (10_state.md R27): true is level 1. -/
def slotLevel (c : BitVec 10) : Bool := c.getLsbD 0

/-- A normal write: `now` into the next slot, and the cursor on it, in one step
(40_edge_capture.md R131). -/
def normalWrite (s : State) (now : Word) : State :=
  { ringWrite s (nextSlot s s.wr) now with wr := nextSlot s s.wr }

/-- An event joins the events of this step (60_exceptions.md R291). -/
def note (s : State) (e : Event) : State := { s with events := s.events ++ [e] }

/-- The first edge of an overflow episode (40_edge_capture.md R135; event `RING_OVERFLOW`). -/
def startEpisode (s : State) : State :=
  note { s with ovf := true, ovfCount := s.ovfCount + 1, ovfActive := true } .ringOverflow

/-- The read of a register returns `w` to HOST and writes nothing (45_host_interface.md R260). -/
def reply (s : State) (w : Word) : State := { s with rdata := some w }

/-- `FrameByte(i)` (00_scope.md R11). -/
def frameByte (s : State) (i : Nat) : Byte := s.b[i]?.getD 0

/-- The first `n` bytes of the frame, what `DECODE_STEP(n, mode)` reads (44_decoders.md R201). -/
def framePrefix (s : State) (n : Nat) : List Byte := s.b.toList.take n

/-- `FRAME_RESET()` (42_bit_assembler.md R183). -/
def frameReset (s : State) : State :=
  { s with nbits := 0, syncCnt := 0, b := Vector.replicate 10 0 }

/-- `count(CSUM_ERR_COUNT)` (10_state.md R36; event `CSUM_FAIL`). -/
def countCsumFail (s : State) : State :=
  note { s with csumErrCount := s.csumErrCount + 1 } .csumFail

/-- `count(PAR_ERR_COUNT)` (10_state.md R36; event `PARITY_FAIL`). -/
def countParityFail (s : State) : State :=
  note { s with parErrCount := s.parErrCount + 1 } .parityFail

/-- The accept effects: latch, `RES_SEQ`, `RES_NEW`, `FRAME_OK_COUNT` and the record port
(44_decoders.md R201, 45_host_interface.md R276; event `FRAME_OK`). -/
def acceptRec (s : State) (r : Rec) : State :=
  note { s with
    res := recWords r
    resSeq := s.resSeq + 1
    resNew := true
    frameOkCount := s.frameOkCount + 1
    recPort := some (recWords r) } .frameOk

/-- `SOFT_RESET()` (45_host_interface.md R270): `CTRL`, the timing registers, `TS` and `RES_SEQ` stay. -/
def softReset (s : State) : State :=
  frameReset { s with
    ring := []
    wr := 0
    rd := 0
    filt := false
    ovfActive := false
    ovf := false
    resNew := false
    ovfCount := 0
    csumErrCount := 0
    parErrCount := 0
    frameOkCount := 0
    prevTs := 0
    res := RecWords.zero }

/-- `HW_RESET` (70_reset_and_hazards.md R310, R311): every piece of state at its reset value. The
parameters are no state (10_state.md R20), nor are the stimuli still to come (log entry 13). -/
def hardwareReset (s : State) : State :=
  { State.resetWith s.params with stim := s.stim }

/-- What every step begins with: the stimuli that remain, `rec_valid = 0`, no read data and no event
(45_host_interface.md R276: `rec_valid = 1` for the accepting step only; log entry 7). -/
def beginStep (s : State) (rest : List StimWord) : State :=
  { s with recPort := none, rdata := none, events := [], stim := rest }

end Sys2Proof.Machine
end

