-- ==== Sys2Proof/Machine/Validator.lean ====
section
/-! DEFINITION. The packet validator: the summation checksum (43_validator.md R190) and the per-byte
even parity over a range (R191). Pure functions of the frame's bytes. -/

namespace Sys2Proof.Machine

/-- The 8-bit sum of some bytes (43_validator.md R190). -/
def byteSum (bs : List Byte) : Byte := bs.foldl (fun acc x => acc + x) 0

/-- `CHECKSUM(b, L)` on the `L` bytes `bs`: the sum of all but the last equals the last
(43_validator.md R190). -/
def checksum (bs : List Byte) : Bool := byteSum bs.dropLast == bs.getLastD 0

/-- `xor7(v)`: the XOR of the low seven bits (00_scope.md R11). -/
def xor7 (v : Byte) : Bool :=
  v.getLsbD 0 ^^ v.getLsbD 1 ^^ v.getLsbD 2 ^^ v.getLsbD 3 ^^ v.getLsbD 4 ^^ v.getLsbD 5 ^^ v.getLsbD 6

/-- The test of one byte: its top bit is the XOR of its low seven (43_validator.md R191). -/
def byteParity (v : Byte) : Bool := v.getLsbD 7 == xor7 v

/-- `PARITY(b, lo, hi, EX)` (43_validator.md R191). -/
def parity (bs : List Byte) (lo hi : Nat) (ex : List Nat) : Bool :=
  (List.range' lo (hi + 1 - lo)).all (fun i => ex.contains i || byteParity (bs.getD i 0))

/-- The parity check of a format; a format with no range calls none (44_decoders.md R201). -/
def formatParity (f : Format) (bs : List Byte) : Bool :=
  match (fmtRom f).parity with
  | none => true
  | some (lo, hi) => parity bs lo hi (fmtRom f).exempt

end Sys2Proof.Machine
end

