-- ==== Sys2Proof/Machine/Packets.lean ====
section
/-! DEFINITION. The packet rows: the field extractors (44_decoders.md R203 to R216), the try of one
format on a frame (R201), and the meaning of each row, which is its try in `COUNT` mode (log entry 9). -/

namespace Sys2Proof.Machine

/-- `COUNT` at a byte boundary, `SILENT` on the abort handover (44_decoders.md R201). -/
inductive Mode where
  | count
  | silent
  deriving DecidableEq, Repr

/-- Byte `i` of a frame. -/
def byteAt (bs : List Byte) (i : Nat) : Byte := bs.getD i 0

/-- The channel letter of a code through a format's table (44_decoders.md R203, R240, R241). -/
def channelChar (p : Params) (lut : ChLut) (code : BitVec 2) : Byte :=
  match lut with
  | .lutA => chLutA[code.toNat]?.getD 0
  | .lutB => p.chLutB[code.toNat]?.getD 0

/-- `EXTRACT_COMMON(b, f)` (44_decoders.md R203). -/
def extractCommon (p : Params) (f : Format) (bs : List Byte) : Rec where
  fmt := (fmtRom f).id
  len := BitVec.ofNat 4 (fmtRom f).len
  mtype := mtype bs
  chCode := (byteAt bs 0).extractLsb 7 6
  chChar := channelChar p (fmtRom f).lut ((byteAt bs 0).extractLsb 7 6)
  batt := (byteAt bs 2).extractLsb 6 6

/-- `LIGHTNING_FIELDS(rec, b, i)` (44_decoders.md R216). -/
def lightningFields (p : Params) (r : Rec) (bs : List Byte) (i : Nat) : Rec :=
  { r with
    strikes := (byteAt bs i).extractLsb 6 0 ++ (byteAt bs (i + 1)).extractLsb 6 6
    rfi := (byteAt bs (i + 1)).extractLsb 5 5
    distIdx := (byteAt bs (i + 1)).extractLsb 4 0
    distKm := p.distKm ((byteAt bs (i + 1)).extractLsb 4 0)
    present := r.present ||| presentLtng }

/-- The 14-bit address of Tower, Rain, Lightning and Notos (30_encoding.md R85 to R87, R89). -/
def addr14 (bs : List Byte) : BitVec 14 := (byteAt bs 0).extractLsb 5 0 ++ byteAt bs 1

/-- The 12-bit temperature of Tower, Lightning, Atlas TH and Notos (30_encoding.md R85, R87 to R89). -/
def temp12 (bs : List Byte) : BitVec 12 := (byteAt bs 4).extractLsb 4 0 ++ (byteAt bs 5).extractLsb 6 0

/-- Tower (44_decoders.md R204). -/
def extractTower (p : Params) (bs : List Byte) : Rec :=
  { extractCommon p .tower bs with
    addr := addr14 bs
    hum := (byteAt bs 3).extractLsb 6 0
    tempRaw := temp12 bs
    present := presentTemp ||| presentHum }

/-- Rain (44_decoders.md R205). -/
def extractRain (p : Params) (bs : List Byte) : Rec :=
  { extractCommon p .rain bs with
    addr := addr14 bs
    rainCnt := (byteAt bs 4).extractLsb 6 0 ++ (byteAt bs 5).extractLsb 6 0 ++ (byteAt bs 6).extractLsb 6 0
    present := presentRain }

/-- Lightning (44_decoders.md R206). -/
def extractLightning (p : Params) (bs : List Byte) : Rec :=
  lightningFields p
    { extractCommon p .lightning bs with
      addr := addr14 bs
      hum := (byteAt bs 3).extractLsb 6 0
      tempRaw := temp12 bs
      present := presentTemp ||| presentHum } bs 6

/-- The part every Atlas message shares: the 10-bit address and the wind speed (30_encoding.md R88). -/
def extractAtlas (p : Params) (bs : List Byte) : Rec :=
  { extractCommon p .atlas bs with
    addr := 0#4 ++ (byteAt bs 0).extractLsb 1 0 ++ byteAt bs 1
    wspdRaw := (byteAt bs 3).extractLsb 6 0 ++ (byteAt bs 4).extractLsb 6 6
    present := presentWspd }

/-- Atlas TH (44_decoders.md R207). -/
def extractAtlas05 (p : Params) (bs : List Byte) : Rec :=
  { extractAtlas p bs with
    tempRaw := temp12 bs
    hum := (byteAt bs 6).extractLsb 6 0
    present := presentWspd ||| presentTemp ||| presentHum }

/-- The Atlas direction in degrees (44_decoders.md R208). -/
def atlasDir (bs : List Byte) : BitVec 10 := (byteAt bs 4).extractLsb 4 0 ++ (byteAt bs 5).extractLsb 6 2

/-- Atlas WR (44_decoders.md R208). -/
def extractAtlas06 (p : Params) (bs : List Byte) : Rec :=
  { extractAtlas p bs with
    wdirRaw := atlasDir bs
    wdirD10 := BitVec.ofNat 14 ((atlasDir bs).toNat * 10)
    rainCnt := 0#12 ++ (byteAt bs 5).extractLsb 1 0 ++ (byteAt bs 6).extractLsb 6 0
    present := presentWspd ||| presentWdir ||| presentRain }

/-- Atlas UL (44_decoders.md R209). -/
def extractAtlas07 (p : Params) (bs : List Byte) : Rec :=
  { extractAtlas p bs with
    uv := (byteAt bs 4).extractLsb 3 0
    luxRaw := (byteAt bs 5).extractLsb 6 0 ++ (byteAt bs 6).extractLsb 6 0
    present := presentWspd ||| presentUvLux }

/-- Notos (44_decoders.md R213). -/
def extractNotos (p : Params) (bs : List Byte) : Rec :=
  { extractCommon p .notos bs with
    addr := addr14 bs
    hum := (byteAt bs 3).extractLsb 6 0
    tempRaw := temp12 bs
    wspdRaw := 0#1 ++ (byteAt bs 6).extractLsb 6 0
    present := presentTemp ||| presentHum ||| presentWspd }

/-- The part both Iris messages share: the 12-bit address and the wind speed (30_encoding.md R90). -/
def extractIris (p : Params) (bs : List Byte) : Rec :=
  { extractCommon p .iris bs with
    addr := 0#2 ++ (byteAt bs 0).extractLsb 3 0 ++ byteAt bs 1
    wspdRaw := (byteAt bs 3).extractLsb 4 0 ++ (byteAt bs 4).extractLsb 6 4
    present := presentWspd }

/-- Iris wind and rain (44_decoders.md R214). -/
def extractIris31 (p : Params) (bs : List Byte) : Rec :=
  { extractIris p bs with
    wdirRaw := 0#6 ++ (byteAt bs 4).extractLsb 3 0
    wdirD10 := 0#2 ++ wdirRom[((byteAt bs 4).extractLsb 3 0).toNat]?.getD 0
    rainCnt := 0#7 ++ (byteAt bs 5).extractLsb 6 0 ++ (byteAt bs 6).extractLsb 6 0
    present := presentWspd ||| presentWdir ||| presentRain }

/-- Iris wind, temperature and humidity (44_decoders.md R215). -/
def extractIris38 (p : Params) (bs : List Byte) : Rec :=
  { extractIris p bs with
    tempRaw := 0#1 ++ (byteAt bs 4).extractLsb 3 0 ++ (byteAt bs 5).extractLsb 6 0
    hum := (byteAt bs 6).extractLsb 6 0
    present := presentWspd ||| presentTemp ||| presentHum }

/-- The body of the loop of `DECODE_STEP` for a format whose length and discriminator fit: checksum,
then parity, then accept (44_decoders.md R201, 43_validator.md R192). The Bool says ACCEPTED. -/
def validateAndAccept (f : Format) (bs : List Byte) (r : Rec) (mode : Mode) (s : State) : Bool × State :=
  if !checksum bs then (false, if mode = .count then countCsumFail s else s)
  else if !formatParity f bs then (false, if mode = .count then countParityFail s else s)
  else (true, acceptRec s r)

/-- The try of the Tower row (44_decoders.md R204). -/
def tryTower (bs : List Byte) (mode : Mode) (s : State) : Bool × State :=
  validateAndAccept .tower bs (extractTower s.params bs) mode s

/-- The try of the Rain row (44_decoders.md R205). -/
def tryRain (bs : List Byte) (mode : Mode) (s : State) : Bool × State :=
  validateAndAccept .rain bs (extractRain s.params bs) mode s

/-- The try of the Lightning row (44_decoders.md R206). -/
def tryLightning (bs : List Byte) (mode : Mode) (s : State) : Bool × State :=
  validateAndAccept .lightning bs (extractLightning s.params bs) mode s

/-- The try of the Atlas TH row (44_decoders.md R207). -/
def tryAtlas05 (bs : List Byte) (mode : Mode) (s : State) : Bool × State :=
  validateAndAccept .atlas bs (extractAtlas05 s.params bs) mode s

/-- The try of the Atlas WR row (44_decoders.md R208). -/
def tryAtlas06 (bs : List Byte) (mode : Mode) (s : State) : Bool × State :=
  validateAndAccept .atlas bs (extractAtlas06 s.params bs) mode s

/-- The try of the Atlas UL row (44_decoders.md R209). -/
def tryAtlas07 (bs : List Byte) (mode : Mode) (s : State) : Bool × State :=
  validateAndAccept .atlas bs (extractAtlas07 s.params bs) mode s

/-- The try of the Atlas TH row with lightning (44_decoders.md R210). -/
def tryAtlas25 (bs : List Byte) (mode : Mode) (s : State) : Bool × State :=
  validateAndAccept .atlas bs (lightningFields s.params (extractAtlas05 s.params bs) bs 7) mode s

/-- The try of the Atlas WR row with lightning (44_decoders.md R211). -/
def tryAtlas26 (bs : List Byte) (mode : Mode) (s : State) : Bool × State :=
  validateAndAccept .atlas bs (lightningFields s.params (extractAtlas06 s.params bs) bs 7) mode s

/-- The try of the Atlas UL row with lightning (44_decoders.md R212). -/
def tryAtlas27 (bs : List Byte) (mode : Mode) (s : State) : Bool × State :=
  validateAndAccept .atlas bs (lightningFields s.params (extractAtlas07 s.params bs) bs 7) mode s

/-- The try of the Notos row (44_decoders.md R213). -/
def tryNotos (bs : List Byte) (mode : Mode) (s : State) : Bool × State :=
  validateAndAccept .notos bs (extractNotos s.params bs) mode s

/-- The try of the Iris 0x31 row (44_decoders.md R214). -/
def tryIris31 (bs : List Byte) (mode : Mode) (s : State) : Bool × State :=
  validateAndAccept .iris bs (extractIris31 s.params bs) mode s

/-- The try of the Iris 0x38 row (44_decoders.md R215). -/
def tryIris38 (bs : List Byte) (mode : Mode) (s : State) : Bool × State :=
  validateAndAccept .iris bs (extractIris38 s.params bs) mode s

/-- `PKT_TOWER` (44_decoders.md R204). -/
def execPktTower (bs : List Byte) (s : State) : Result := .next (tryTower bs .count s).2

/-- `PKT_RAIN` (44_decoders.md R205). -/
def execPktRain (bs : List Byte) (s : State) : Result := .next (tryRain bs .count s).2

/-- `PKT_LTNG` (44_decoders.md R206). -/
def execPktLtng (bs : List Byte) (s : State) : Result := .next (tryLightning bs .count s).2

/-- `PKT_ATLAS_05` (44_decoders.md R207). -/
def execPktAtlas05 (bs : List Byte) (s : State) : Result := .next (tryAtlas05 bs .count s).2

/-- `PKT_ATLAS_06` (44_decoders.md R208). -/
def execPktAtlas06 (bs : List Byte) (s : State) : Result := .next (tryAtlas06 bs .count s).2

/-- `PKT_ATLAS_07` (44_decoders.md R209). -/
def execPktAtlas07 (bs : List Byte) (s : State) : Result := .next (tryAtlas07 bs .count s).2

/-- `PKT_ATLAS_25` (44_decoders.md R210). -/
def execPktAtlas25 (bs : List Byte) (s : State) : Result := .next (tryAtlas25 bs .count s).2

/-- `PKT_ATLAS_26` (44_decoders.md R211). -/
def execPktAtlas26 (bs : List Byte) (s : State) : Result := .next (tryAtlas26 bs .count s).2

/-- `PKT_ATLAS_27` (44_decoders.md R212). -/
def execPktAtlas27 (bs : List Byte) (s : State) : Result := .next (tryAtlas27 bs .count s).2

/-- `PKT_NOTOS` (44_decoders.md R213). -/
def execPktNotos (bs : List Byte) (s : State) : Result := .next (tryNotos bs .count s).2

/-- `PKT_IRIS_31` (44_decoders.md R214). -/
def execPktIris31 (bs : List Byte) (s : State) : Result := .next (tryIris31 bs .count s).2

/-- `PKT_IRIS_38` (44_decoders.md R215). -/
def execPktIris38 (bs : List Byte) (s : State) : Result := .next (tryIris38 bs .count s).2

end Sys2Proof.Machine
end

