-- ==== Sys2Proof/Machine/DecodeStep.lean ====
section
/-! DEFINITION. `DECODE_STEP(n, mode)`, the demultiplexer (44_decoders.md R201, R202). -/

namespace Sys2Proof.Machine

/-- The format's length and discriminator fit the frame (44_decoders.md R201). -/
def formatMatches (f : Format) (bs : List Byte) : Bool :=
  (fmtRom f).len == bs.length && (fmtRom f).codes.contains (mtype bs)

/-- The row of a format that an `MTYPE` of its code set selects (44_decoders.md R204 to R215). -/
def tryRow (f : Format) (bs : List Byte) (mode : Mode) (s : State) : Bool × State :=
  match f with
  | .tower => tryTower bs mode s
  | .rain => tryRain bs mode s
  | .lightning => tryLightning bs mode s
  | .atlas =>
    if mtype bs = 0x05 then tryAtlas05 bs mode s
    else if mtype bs = 0x06 then tryAtlas06 bs mode s
    else if mtype bs = 0x07 then tryAtlas07 bs mode s
    else if mtype bs = 0x25 then tryAtlas25 bs mode s
    else if mtype bs = 0x26 then tryAtlas26 bs mode s
    else tryAtlas27 bs mode s
  | .notos => tryNotos bs mode s
  | .iris => if mtype bs = 0x31 then tryIris31 bs mode s else tryIris38 bs mode s

/-- One round of the loop: a length or discriminator mismatch is "no match", not counted
(44_decoders.md R201). -/
def tryFormat (f : Format) (bs : List Byte) (mode : Mode) (s : State) : Bool × State :=
  if formatMatches f bs then tryRow f bs mode s else (false, s)

/-- The loop over the formats still to be tried; it ends at the first accept (44_decoders.md R201). -/
def tryFormats (bs : List Byte) (mode : Mode) : List Format → State → Bool × State
  | [], s => (false, s)
  | f :: fs, s =>
    match tryFormat f bs mode s with
    | (true, s') => (true, s')
    | (false, s') => tryFormats bs mode fs s'

/-- No format fits the frame: event `NO_MATCH`, once per call at a byte boundary
(60_exceptions.md R291; log entry 8). -/
def noteNoMatch (bs : List Byte) (mode : Mode) (s : State) : State :=
  if mode = .count && !priority.any (fun f => formatMatches f bs) then note s .noMatch else s

/-- `DECODE_STEP(n, mode)` (44_decoders.md R201). The Bool says ACCEPTED. -/
def decodeStep (n : Nat) (mode : Mode) (s : State) : Bool × State :=
  tryFormats (framePrefix s n) mode priority (noteNoMatch (framePrefix s n) mode s)

end Sys2Proof.Machine
end

