-- ==== Sys2Proof/Machine/Flags.lean ====
section
/-! DEFINITION. The derived values of the block: the cursor conditions (10_state.md R26), the BAS state
code (R35), `CFG_OVERLAP` (R40), the readable words of the registers (R42, R43, R47) and `irq`
(60_exceptions.md R294). -/

namespace Sys2Proof.Machine

/-- `ring_empty` (10_state.md R26). -/
def ringEmpty (s : State) : Bool := s.rd == s.wr

/-- `ring_full` (10_state.md R26). -/
def ringFull (s : State) : Bool := nextSlot s s.wr == s.rd

/-- `ring_count = (wr - rd) mod RING_SIZE` (10_state.md R26). -/
def ringCount (s : State) : Nat :=
  (s.wr.toNat + (s.params.ringSize - slotOf s s.rd)) % s.params.ringSize

/-- The BAS state code (10_state.md R35): 0 AWAITING_SYNC, 1 COUNTING_SYNC, 2 COLLECTING_BITS. -/
def fsmCode (s : State) : BitVec 2 :=
  if s.nbits = 0 then (if s.syncCnt = 0 then 0 else 1) else 2

/-- The lower bound of the band around `c`, `max(c - TOL_US, 0)` (00_scope.md R12). -/
def bandLo (s : State) (c : BitVec 16) : Nat := c.toNat - s.tolUs.toNat

/-- The upper bound of the band around `c`, `c + TOL_US` (00_scope.md R12). -/
def bandHi (s : State) (c : BitVec 16) : Nat := c.toNat + s.tolUs.toNat

/-- Two closed bands share a point (10_state.md R40). -/
def bandsMeet (s : State) (c d : BitVec 16) : Bool :=
  decide (bandLo s c ≤ bandHi s d) && decide (bandLo s d ≤ bandHi s c)

/-- `CFG_OVERLAP` (10_state.md R40). -/
def cfgOverlap (s : State) : Bool :=
  bandsMeet s s.syncUs s.zeroUs || bandsMeet s s.syncUs s.oneUs || bandsMeet s s.zeroUs s.oneUs

/-- The `ID` constant, "OOK1" (10_state.md R42). -/
def idWord : Word := 0x4F4F4B31

/-- The `CTRL` word; `SOFT_RST` and the reserved bits read 0 (10_state.md R38). -/
def ctrlWord (s : State) : Word :=
  0#27 ++ BitVec.ofBool s.ieOvf ++ BitVec.ofBool s.ieRes ++ BitVec.ofBool s.srcSel
    ++ BitVec.ofBool s.demEn ++ BitVec.ofBool s.capEn

/-- The `STATUS` word (10_state.md R43, 45_host_interface.md R260). -/
def statusWord (s : State) : Word :=
  0#23 ++ BitVec.ofBool (ringFull s) ++ BitVec.ofBool (ringEmpty s) ++ fsmCode s
    ++ BitVec.ofBool s.filt ++ BitVec.ofBool s.ovfActive ++ BitVec.ofBool (cfgOverlap s)
    ++ BitVec.ofBool s.resNew ++ BitVec.ofBool s.ovf

/-- The `RING_PTR` word: `wr` in [9:0], `rd` in [25:16] (10_state.md R42). -/
def ringPtrWord (s : State) : Word := 0#6 ++ s.rd ++ 0#6 ++ s.wr

/-- A 16-bit timing register, zero-extended (10_state.md R39). -/
def timingWord (v : BitVec 16) : Word := 0#16 ++ v

/-- The `SYNC_MIN` word (10_state.md R39). -/
def syncMinWord (s : State) : Word := 0#24 ++ s.syncMin

/-- The `DEMOD` word: `sync_cnt` in [7:0], `nbits` in [14:8] (10_state.md R42). -/
def demodWord (s : State) : Word := 0#17 ++ s.nbits ++ s.syncCnt

/-- The `FRAME0` word (10_state.md R42, R47). -/
def frame0Word (s : State) : Word := frameByte s 3 ++ frameByte s 2 ++ frameByte s 1 ++ frameByte s 0

/-- The `FRAME1` word (10_state.md R42, R47). -/
def frame1Word (s : State) : Word := frameByte s 7 ++ frameByte s 6 ++ frameByte s 5 ++ frameByte s 4

/-- The `FRAME2` word (10_state.md R42, R47). -/
def frame2Word (s : State) : Word := 0#16 ++ frameByte s 9 ++ frameByte s 8

/-- The `RING_DATA[i]` word; a slot from `RING_SIZE` on is reserved and reads 0
(45_host_interface.md R260). -/
def ringDataWord (s : State) (i : BitVec 10) : Word :=
  if i.toNat < s.params.ringSize then ringRead s i else 0

/-- What a reserved offset and `PULSE_IN` read as (10_state.md R42). -/
def zeroWord : Word := 0

/-- `irq`, a level that follows the flags (60_exceptions.md R294). -/
def irq (s : State) : Bool := (s.ieRes && s.resNew) || (s.ieOvf && s.ovf)

end Sys2Proof.Machine
end

