-- ==== Sys2Proof/Machine/Operands.lean ====
section
/-! DEFINITION. The operand of a DEM step: a pulse, from the ring (41_pulse_classifier.md R150) or from
`PULSE_IN` (R151), and its class (R152). -/

namespace Sys2Proof.Machine

/-- The level of a pulse (30_encoding.md R80). -/
inductive Level where
  | mark
  | space
  deriving DecidableEq, Repr

/-- The class of a duration (41_pulse_classifier.md R152); `miss` is the spec's NONE. -/
inductive PulseClass where
  | sync
  | zero
  | one
  | miss
  deriving DecidableEq, Repr

/-- The band test `inband(d, C)`, on unbounded integers (00_scope.md R12). -/
def inband (s : State) (d : Word) (c : BitVec 16) : Bool :=
  decide (bandLo s c ≤ d.toNat) && decide (d.toNat ≤ bandHi s c)

/-- `CLASSIFY(d)` (41_pulse_classifier.md R152). -/
def classify (s : State) (d : Word) : PulseClass :=
  if inband s d s.syncUs then .sync
  else if inband s d s.zeroUs then .zero
  else if inband s d s.oneUs then .one
  else .miss

/-- The level of the pulse that ends at a slot: an even slot ends a mark, an odd slot a space
(41_pulse_classifier.md R150, R153). -/
def endedLevel (idx : BitVec 10) : Level := if slotLevel idx then .space else .mark

/-- The pulse a signed value stands for: positive a mark, negative a space of its magnitude, zero none
(41_pulse_classifier.md R151). -/
def signedPulse (v : Word) : Option (Level × Word) :=
  if v = 0 then none
  else if v.getLsbD 31 then some (.space, -v)
  else some (.mark, v)

/-- `CONSUME` is enabled (41_pulse_classifier.md R150, 60_exceptions.md R298). -/
def consumeEnabled (s : State) : Bool := s.demEn && !s.srcSel && !ringEmpty s

/-- A `PULSE_IN` write takes effect (41_pulse_classifier.md R151). -/
def pulseInEnabled (s : State) : Bool := s.demEn && s.srcSel

end Sys2Proof.Machine
end

