-- ==== Sys2Proof/Machine/BitAssembler.lean ====
section
/-! DEFINITION. The bit assembler: what one classified pulse does (42_bit_assembler.md R170 to R183). -/

namespace Sys2Proof.Machine

/-- `BYTE_COMPLETE(n)` (42_bit_assembler.md R175 to R177; event `MAX_RESET` at the tenth byte). -/
def byteComplete (n : Nat) (s : State) : State :=
  match decodeStep n .count s with
  | (true, t) => frameReset t
  | (false, t) => if n = maxBytes then frameReset (note t .maxReset) else t

/-- The bit's place in the frame: bit `i` goes to `b[i div 8][7 - (i mod 8)]`
(42_bit_assembler.md R174, 20_memory.md R64). -/
def storeBit (v : Bool) (s : State) : State :=
  { s with
    b := s.b.setIfInBounds (s.nbits.toNat / 8)
      (frameByte s (s.nbits.toNat / 8) |||
        ((if v then 1#8 else 0#8) <<< (7 - s.nbits.toNat % 8)))
    nbits := s.nbits + 1 }

/-- `APPEND_BIT(v)` (42_bit_assembler.md R174). -/
def appendBit (v : Bool) (s : State) : State :=
  if (storeBit v s).nbits.toNat % 8 = 0 then
    byteComplete ((storeBit v s).nbits.toNat / 8) (storeBit v s)
  else storeBit v s

/-- `ABORT()`: the handover, then the frame reset (42_bit_assembler.md R180; event `TIMING_MISS`;
log entry 14). -/
def abortFrame (s : State) : State :=
  frameReset
    (note (if minFmtBytes ≤ s.nbits.toNat / 8 then (decodeStep (s.nbits.toNat / 8) .silent s).2 else s)
      .timingMiss)

/-- A sync pulse: `sync_cnt <- sat8(sync_cnt + 1)` (42_bit_assembler.md R171). -/
def countSync (s : State) : State :=
  { s with syncCnt := if s.syncCnt = 255 then 255 else s.syncCnt + 1 }

/-- A sync reset (42_bit_assembler.md R172; event `TIMING_MISS` where `sync_cnt > 0`,
60_exceptions.md R291). -/
def resetSync (s : State) : State :=
  { (if s.syncCnt = 0 then s else note s .timingMiss) with syncCnt := 0 }

/-- The data bit a class stands for (42_bit_assembler.md R173, R179). -/
def dataBit : PulseClass → Option Bool
  | .sync => none
  | .zero => some false
  | .one => some true
  | .miss => none

/-- A pulse while no bits are collected (42_bit_assembler.md R170 to R173). -/
def searchPulse (p : Level) (c : PulseClass) (s : State) : State :=
  if c = .sync then countSync s
  else
    match p, dataBit c with
    | .mark, some v => if s.syncMin.toNat < s.syncCnt.toNat then appendBit v s else resetSync s
    | .mark, none => resetSync s
    | .space, _ => resetSync s

/-- A pulse while bits are collected (42_bit_assembler.md R170, R178 to R180). -/
def collectPulse (p : Level) (c : PulseClass) (s : State) : State :=
  match p, dataBit c with
  | .space, _ => s
  | .mark, some v => appendBit v s
  | .mark, none => abortFrame s

/-- `BAS_PULSE(p, d)` (42_bit_assembler.md R170). -/
def basPulse (p : Level) (d : Word) (s : State) : State :=
  if s.nbits = 0 then searchPulse p (classify s d) s else collectPulse p (classify s d) s

end Sys2Proof.Machine
end

