-- ==== Sys2Proof/Machine/Events.lean ====
section
/-! DEFINITION. The operations of ENV, CAP and DEM and the hardware reset: `TICK` (40_edge_capture.md
R141), `EDGE` (R130), `CONSUME` (41_pulse_classifier.md R150), `HW_RESET` (70_reset_and_hazards.md R310). -/

namespace Sys2Proof.Machine

/-- `TICK(k)` (40_edge_capture.md R141). -/
def execTick (k : Word) (s : State) : Result := .next { s with ts := s.ts + k }

/-- `delta`, the time from the last stored edge to now, modulo 2^32 (40_edge_capture.md R132). -/
def edgeDelta (s : State) : Word := s.ts - ringRead s s.wr

/-- The resolution of a filtered mark (40_edge_capture.md R133). -/
def resolveFiltered (lvl : Bool) (s : State) : State :=
  if lvl = slotLevel s.wr then ringWrite { s with filt := false } s.wr s.ts
  else normalWrite { s with filt := false } s.ts

/-- The tests of an edge that finds room: glitch filter, filtered mark, level
(40_edge_capture.md R130, tests 2 to 4). -/
def captureEdge (lvl : Bool) (s : State) : State :=
  if (edgeDelta s).toNat < s.filterUs.toNat then { s with filt := true }
  else if s.filt then resolveFiltered lvl s
  else if lvl = slotLevel (nextSlot s s.wr) then normalWrite s s.ts
  else s

/-- The whole of `EDGE(lvl)` (40_edge_capture.md R130): full test, then the others. -/
def edgeStep (lvl : Bool) (s : State) : State :=
  if !s.capEn then s
  else if ringFull s then (if s.ovfActive then s else startEpisode s)
  else captureEdge lvl { s with ovfActive := false }

/-- `EDGE(lvl)` (40_edge_capture.md R130). -/
def execEdge (lvl : Bool) (s : State) : Result := .next (edgeStep lvl s)

/-- The timestamp `CONSUME` takes: slot `(rd + 1) mod RING_SIZE` (41_pulse_classifier.md R150). -/
def consumedTs (s : State) : Word := ringRead s (nextSlot s s.rd)

/-- The cursor and `prev_ts` as `CONSUME` writes them (41_pulse_classifier.md R150). -/
def takeEntry (s : State) : State :=
  { s with rd := nextSlot s s.rd, prevTs := consumedTs s }

/-- `CONSUME` (41_pulse_classifier.md R150); refused where it is not enabled. -/
def execConsume (s : State) : Result :=
  if consumeEnabled s then
    .next (basPulse (endedLevel (nextSlot s s.rd)) (consumedTs s - s.prevTs) (takeEntry s))
  else .refused .consumeNotEnabled

/-- `HW_RESET` (70_reset_and_hazards.md R310). -/
def execHwReset (s : State) : Result := .next (hardwareReset s)

end Sys2Proof.Machine
end

