-- ==== Sys2Proof/Machine/HostReads.lean ====
section
/-! DEFINITION. The HOST reads (45_host_interface.md R260): each returns its register's word in `rdata`
and writes nothing else (20_memory.md R63). -/

namespace Sys2Proof.Machine

/-- `RD ID`, offset 0x000 (45_host_interface.md R260). -/
def execRdId (s : State) : Result := .next (reply s idWord)

/-- `RD CTRL`, offset 0x004 (45_host_interface.md R260). -/
def execRdCtrl (s : State) : Result := .next (reply s (ctrlWord s))

/-- `RD STATUS`, offset 0x008 (45_host_interface.md R260). -/
def execRdStatus (s : State) : Result := .next (reply s (statusWord s))

/-- `RD RING_PTR`, offset 0x00C (45_host_interface.md R260). -/
def execRdRingPtr (s : State) : Result := .next (reply s (ringPtrWord s))

/-- `RD FILTER_US`, offset 0x010 (45_host_interface.md R260). -/
def execRdFilterUs (s : State) : Result := .next (reply s (timingWord s.filterUs))

/-- `RD SYNC_US`, offset 0x014 (45_host_interface.md R260). -/
def execRdSyncUs (s : State) : Result := .next (reply s (timingWord s.syncUs))

/-- `RD ZERO_US`, offset 0x018 (45_host_interface.md R260). -/
def execRdZeroUs (s : State) : Result := .next (reply s (timingWord s.zeroUs))

/-- `RD ONE_US`, offset 0x01C (45_host_interface.md R260). -/
def execRdOneUs (s : State) : Result := .next (reply s (timingWord s.oneUs))

/-- `RD TOL_US`, offset 0x020 (45_host_interface.md R260). -/
def execRdTolUs (s : State) : Result := .next (reply s (timingWord s.tolUs))

/-- `RD SYNC_MIN`, offset 0x024 (45_host_interface.md R260). -/
def execRdSyncMin (s : State) : Result := .next (reply s (syncMinWord s))

/-- `RD TIMER`, offset 0x028 (45_host_interface.md R260). -/
def execRdTimer (s : State) : Result := .next (reply s s.ts)

/-- `RD PULSE_IN`, offset 0x02C (45_host_interface.md R260). -/
def execRdPulseIn (s : State) : Result := .next (reply s zeroWord)

/-- `RD DEMOD`, offset 0x030 (45_host_interface.md R260). -/
def execRdDemod (s : State) : Result := .next (reply s (demodWord s))

/-- `RD PREV_TS`, offset 0x034 (45_host_interface.md R260). -/
def execRdPrevTs (s : State) : Result := .next (reply s s.prevTs)

/-- `RD OVF_COUNT`, offset 0x040 (45_host_interface.md R260). -/
def execRdOvfCount (s : State) : Result := .next (reply s s.ovfCount)

/-- `RD CSUM_ERR_COUNT`, offset 0x044 (45_host_interface.md R260). -/
def execRdCsumErrCount (s : State) : Result := .next (reply s s.csumErrCount)

/-- `RD PAR_ERR_COUNT`, offset 0x048 (45_host_interface.md R260). -/
def execRdParErrCount (s : State) : Result := .next (reply s s.parErrCount)

/-- `RD FRAME_OK_COUNT`, offset 0x04C (45_host_interface.md R260). -/
def execRdFrameOkCount (s : State) : Result := .next (reply s s.frameOkCount)

/-- `RD RES_SEQ`, offset 0x050 (45_host_interface.md R260). -/
def execRdResSeq (s : State) : Result := .next (reply s s.resSeq)

/-- `RD RES0`, offset 0x060 (45_host_interface.md R260). -/
def execRdRes0 (s : State) : Result := .next (reply s s.res.w0)

/-- `RD RES1`, offset 0x064 (45_host_interface.md R260). -/
def execRdRes1 (s : State) : Result := .next (reply s s.res.w1)

/-- `RD RES2`, offset 0x068 (45_host_interface.md R260). -/
def execRdRes2 (s : State) : Result := .next (reply s s.res.w2)

/-- `RD RES3`, offset 0x06C (45_host_interface.md R260). -/
def execRdRes3 (s : State) : Result := .next (reply s s.res.w3)

/-- `RD RES4`, offset 0x070 (45_host_interface.md R260). -/
def execRdRes4 (s : State) : Result := .next (reply s s.res.w4)

/-- `RD RES5`, offset 0x074 (45_host_interface.md R260). -/
def execRdRes5 (s : State) : Result := .next (reply s s.res.w5)

/-- `RD FRAME0`, offset 0x080 (45_host_interface.md R260). -/
def execRdFrame0 (s : State) : Result := .next (reply s (frame0Word s))

/-- `RD FRAME1`, offset 0x084 (45_host_interface.md R260). -/
def execRdFrame1 (s : State) : Result := .next (reply s (frame1Word s))

/-- `RD FRAME2`, offset 0x088 (45_host_interface.md R260). -/
def execRdFrame2 (s : State) : Result := .next (reply s (frame2Word s))

/-- `RD RING_DATA[i]`, offset 0x1000 + 4*i (45_host_interface.md R260). -/
def execRdRingData (i : BitVec 10) (s : State) : Result := .next (reply s (ringDataWord s i))

/-- A read of a reserved offset returns 0, whatever the offset (45_host_interface.md R260). -/
def execRdReserved (_off : BitVec 13) (s : State) : Result := .next (reply s zeroWord)

end Sys2Proof.Machine
end

