-- ==== Sys2Proof/Machine/HostWrites.lean ====
section
/-! DEFINITION. The HOST writes (45_host_interface.md R261 to R266). -/

namespace Sys2Proof.Machine

/-- `CTRL[4:0] <- v[4:0]` (45_host_interface.md R261). -/
def setCtrl (s : State) (v : Word) : State :=
  { s with
    capEn := v.getLsbD 0
    demEn := v.getLsbD 1
    srcSel := v.getLsbD 2
    ieRes := v.getLsbD 3
    ieOvf := v.getLsbD 4 }

/-- `WR CTRL, v` (45_host_interface.md R261); bit 31 performs the soft reset in the same step. -/
def execWrCtrl (v : Word) (s : State) : Result :=
  .next (if v.getLsbD 31 then softReset (setCtrl s v) else setCtrl s v)

/-- `WR STATUS, v`: write 1 to clear `OVF` and `RES_NEW` (45_host_interface.md R262). -/
def execWrStatus (v : Word) (s : State) : Result :=
  .next { s with ovf := s.ovf && !v.getLsbD 0, resNew := s.resNew && !v.getLsbD 1 }

/-- The value of a 16-bit timing register after a write (45_host_interface.md R263). -/
def timingField (v : Word) : BitVec 16 := v.extractLsb 15 0

/-- A write to a read-only register or a reserved offset changes no state (45_host_interface.md R266). -/
def ignoreWrite (_v : Word) (s : State) : Result := .next s

/-- `WR ID, v`, ignored (45_host_interface.md R266). -/
def execWrId (v : Word) (s : State) : Result := ignoreWrite v s

/-- `WR RING_PTR, v`, ignored (45_host_interface.md R266). -/
def execWrRingPtr (v : Word) (s : State) : Result := ignoreWrite v s

/-- `WR FILTER_US, v` (45_host_interface.md R263). -/
def execWrFilterUs (v : Word) (s : State) : Result := .next { s with filterUs := timingField v }

/-- `WR SYNC_US, v` (45_host_interface.md R263). -/
def execWrSyncUs (v : Word) (s : State) : Result := .next { s with syncUs := timingField v }

/-- `WR ZERO_US, v` (45_host_interface.md R263). -/
def execWrZeroUs (v : Word) (s : State) : Result := .next { s with zeroUs := timingField v }

/-- `WR ONE_US, v` (45_host_interface.md R263). -/
def execWrOneUs (v : Word) (s : State) : Result := .next { s with oneUs := timingField v }

/-- `WR TOL_US, v` (45_host_interface.md R263). -/
def execWrTolUs (v : Word) (s : State) : Result := .next { s with tolUs := timingField v }

/-- `WR SYNC_MIN, v` (45_host_interface.md R263). -/
def execWrSyncMin (v : Word) (s : State) : Result := .next { s with syncMin := v.extractLsb 7 0 }

/-- `WR TIMER, v`, ignored (45_host_interface.md R266). -/
def execWrTimer (v : Word) (s : State) : Result := ignoreWrite v s

/-- `WR PULSE_IN, v` (45_host_interface.md R265, 41_pulse_classifier.md R151). -/
def execWrPulseIn (v : Word) (s : State) : Result :=
  if pulseInEnabled s then
    match signedPulse v with
    | none => .next s
    | some (p, d) => .next (basPulse p d s)
  else .next s

/-- `WR DEMOD, v`, ignored (45_host_interface.md R266). -/
def execWrDemod (v : Word) (s : State) : Result := ignoreWrite v s

/-- `WR PREV_TS, v`, ignored (45_host_interface.md R266). -/
def execWrPrevTs (v : Word) (s : State) : Result := ignoreWrite v s

/-- `WR OVF_COUNT, v` clears the counter (45_host_interface.md R264). -/
def execWrOvfCount (_v : Word) (s : State) : Result := .next { s with ovfCount := 0 }

/-- `WR CSUM_ERR_COUNT, v` clears the counter (45_host_interface.md R264). -/
def execWrCsumErrCount (_v : Word) (s : State) : Result := .next { s with csumErrCount := 0 }

/-- `WR PAR_ERR_COUNT, v` clears the counter (45_host_interface.md R264). -/
def execWrParErrCount (_v : Word) (s : State) : Result := .next { s with parErrCount := 0 }

/-- `WR FRAME_OK_COUNT, v` clears the counter (45_host_interface.md R264). -/
def execWrFrameOkCount (_v : Word) (s : State) : Result := .next { s with frameOkCount := 0 }

/-- `WR RES_SEQ, v`, ignored (45_host_interface.md R266). -/
def execWrResSeq (v : Word) (s : State) : Result := ignoreWrite v s

/-- `WR RES0, v`, ignored (45_host_interface.md R266). -/
def execWrRes0 (v : Word) (s : State) : Result := ignoreWrite v s

/-- `WR RES1, v`, ignored (45_host_interface.md R266). -/
def execWrRes1 (v : Word) (s : State) : Result := ignoreWrite v s

/-- `WR RES2, v`, ignored (45_host_interface.md R266). -/
def execWrRes2 (v : Word) (s : State) : Result := ignoreWrite v s

/-- `WR RES3, v`, ignored (45_host_interface.md R266). -/
def execWrRes3 (v : Word) (s : State) : Result := ignoreWrite v s

/-- `WR RES4, v`, ignored (45_host_interface.md R266). -/
def execWrRes4 (v : Word) (s : State) : Result := ignoreWrite v s

/-- `WR RES5, v`, ignored (45_host_interface.md R266). -/
def execWrRes5 (v : Word) (s : State) : Result := ignoreWrite v s

/-- `WR FRAME0, v`, ignored (45_host_interface.md R266). -/
def execWrFrame0 (v : Word) (s : State) : Result := ignoreWrite v s

/-- `WR FRAME1, v`, ignored (45_host_interface.md R266). -/
def execWrFrame1 (v : Word) (s : State) : Result := ignoreWrite v s

/-- `WR FRAME2, v`, ignored (45_host_interface.md R266). -/
def execWrFrame2 (v : Word) (s : State) : Result := ignoreWrite v s

/-- `WR RING_DATA[i], v`, ignored: HOST never writes the ring (45_host_interface.md R266). -/
def execWrRingData (_i : BitVec 10) (v : Word) (s : State) : Result := ignoreWrite v s

/-- A write of a reserved offset, ignored (45_host_interface.md R266). -/
def execWrReserved (_off : BitVec 13) (v : Word) (s : State) : Result := ignoreWrite v s

end Sys2Proof.Machine
end

