-- ==== Sys2Proof/Machine/Refused.lean ====
section
/-! DEFINITION. The refused rows of opcode_table.json (45_host_interface.md R267, 20_memory.md R62):
they have no step, and the run is marked refused. -/

namespace Sys2Proof.Machine

/-- `REFUSED_RD_misaligned_bit_0` (45_host_interface.md R267). -/
def execRefusedRdMisalignedBit0 (_rest : BitVec 27) (_data : Word) (_s : State) : Result :=
  .refused .misaligned

/-- `REFUSED_RD_misaligned_bit_1` (45_host_interface.md R267). -/
def execRefusedRdMisalignedBit1 (_rest : BitVec 26) (_data : Word) (_s : State) : Result :=
  .refused .misaligned

/-- `REFUSED_WR_misaligned_bit_0` (45_host_interface.md R267). -/
def execRefusedWrMisalignedBit0 (_rest : BitVec 27) (_data : Word) (_s : State) : Result :=
  .refused .misaligned

/-- `REFUSED_WR_misaligned_bit_1` (45_host_interface.md R267). -/
def execRefusedWrMisalignedBit1 (_rest : BitVec 26) (_data : Word) (_s : State) : Result :=
  .refused .misaligned

/-- `REFUSED_KIND_6-7` (45_host_interface.md R267). -/
def execRefusedKind6to7 (_rest : BitVec 61) (_s : State) : Result :=
  .refused .reservedKind

/-- `REFUSED_KIND_8-15` (45_host_interface.md R267). -/
def execRefusedKind8to15 (_rest : BitVec 63) (_s : State) : Result :=
  .refused .reservedKind

end Sys2Proof.Machine
end

