-- ==== Sys2Proof/Machine/Dispatch.lean ====
section
/-! DEFINITION. One arm per operation of the opcode table. -/

namespace Sys2Proof.Machine

def exec (i : Instr) (s : State) : Host.Outcome State Fault Refusal :=
  match i with
  | .refusedRdMisalignedBit0 rest data => Sys2Proof.Machine.execRefusedRdMisalignedBit0 rest data s
  | .refusedRdMisalignedBit1 rest data => Sys2Proof.Machine.execRefusedRdMisalignedBit1 rest data s
  | .refusedWrMisalignedBit0 rest data => Sys2Proof.Machine.execRefusedWrMisalignedBit0 rest data s
  | .refusedWrMisalignedBit1 rest data => Sys2Proof.Machine.execRefusedWrMisalignedBit1 rest data s
  | .refusedKind6to7 rest => Sys2Proof.Machine.execRefusedKind6to7 rest s
  | .refusedKind8to15 rest => Sys2Proof.Machine.execRefusedKind8to15 rest s
  | .tick k => Sys2Proof.Machine.execTick k s
  | .edge lvl => Sys2Proof.Machine.execEdge lvl s
  | .consume => Sys2Proof.Machine.execConsume s
  | .hwReset => Sys2Proof.Machine.execHwReset s
  | .rdId => Sys2Proof.Machine.execRdId s
  | .rdCtrl => Sys2Proof.Machine.execRdCtrl s
  | .rdStatus => Sys2Proof.Machine.execRdStatus s
  | .rdRingPtr => Sys2Proof.Machine.execRdRingPtr s
  | .rdFilterUs => Sys2Proof.Machine.execRdFilterUs s
  | .rdSyncUs => Sys2Proof.Machine.execRdSyncUs s
  | .rdZeroUs => Sys2Proof.Machine.execRdZeroUs s
  | .rdOneUs => Sys2Proof.Machine.execRdOneUs s
  | .rdTolUs => Sys2Proof.Machine.execRdTolUs s
  | .rdSyncMin => Sys2Proof.Machine.execRdSyncMin s
  | .rdTimer => Sys2Proof.Machine.execRdTimer s
  | .rdPulseIn => Sys2Proof.Machine.execRdPulseIn s
  | .rdDemod => Sys2Proof.Machine.execRdDemod s
  | .rdPrevTs => Sys2Proof.Machine.execRdPrevTs s
  | .rdOvfCount => Sys2Proof.Machine.execRdOvfCount s
  | .rdCsumErrCount => Sys2Proof.Machine.execRdCsumErrCount s
  | .rdParErrCount => Sys2Proof.Machine.execRdParErrCount s
  | .rdFrameOkCount => Sys2Proof.Machine.execRdFrameOkCount s
  | .rdResSeq => Sys2Proof.Machine.execRdResSeq s
  | .rdRes0 => Sys2Proof.Machine.execRdRes0 s
  | .rdRes1 => Sys2Proof.Machine.execRdRes1 s
  | .rdRes2 => Sys2Proof.Machine.execRdRes2 s
  | .rdRes3 => Sys2Proof.Machine.execRdRes3 s
  | .rdRes4 => Sys2Proof.Machine.execRdRes4 s
  | .rdRes5 => Sys2Proof.Machine.execRdRes5 s
  | .rdFrame0 => Sys2Proof.Machine.execRdFrame0 s
  | .rdFrame1 => Sys2Proof.Machine.execRdFrame1 s
  | .rdFrame2 => Sys2Proof.Machine.execRdFrame2 s
  | .rdRingData k => Sys2Proof.Machine.execRdRingData k s
  | .rdReserved off => Sys2Proof.Machine.execRdReserved off s
  | .wrId v => Sys2Proof.Machine.execWrId v s
  | .wrCtrl v => Sys2Proof.Machine.execWrCtrl v s
  | .wrStatus v => Sys2Proof.Machine.execWrStatus v s
  | .wrRingPtr v => Sys2Proof.Machine.execWrRingPtr v s
  | .wrFilterUs v => Sys2Proof.Machine.execWrFilterUs v s
  | .wrSyncUs v => Sys2Proof.Machine.execWrSyncUs v s
  | .wrZeroUs v => Sys2Proof.Machine.execWrZeroUs v s
  | .wrOneUs v => Sys2Proof.Machine.execWrOneUs v s
  | .wrTolUs v => Sys2Proof.Machine.execWrTolUs v s
  | .wrSyncMin v => Sys2Proof.Machine.execWrSyncMin v s
  | .wrTimer v => Sys2Proof.Machine.execWrTimer v s
  | .wrPulseIn v => Sys2Proof.Machine.execWrPulseIn v s
  | .wrDemod v => Sys2Proof.Machine.execWrDemod v s
  | .wrPrevTs v => Sys2Proof.Machine.execWrPrevTs v s
  | .wrOvfCount v => Sys2Proof.Machine.execWrOvfCount v s
  | .wrCsumErrCount v => Sys2Proof.Machine.execWrCsumErrCount v s
  | .wrParErrCount v => Sys2Proof.Machine.execWrParErrCount v s
  | .wrFrameOkCount v => Sys2Proof.Machine.execWrFrameOkCount v s
  | .wrResSeq v => Sys2Proof.Machine.execWrResSeq v s
  | .wrRes0 v => Sys2Proof.Machine.execWrRes0 v s
  | .wrRes1 v => Sys2Proof.Machine.execWrRes1 v s
  | .wrRes2 v => Sys2Proof.Machine.execWrRes2 v s
  | .wrRes3 v => Sys2Proof.Machine.execWrRes3 v s
  | .wrRes4 v => Sys2Proof.Machine.execWrRes4 v s
  | .wrRes5 v => Sys2Proof.Machine.execWrRes5 v s
  | .wrFrame0 v => Sys2Proof.Machine.execWrFrame0 v s
  | .wrFrame1 v => Sys2Proof.Machine.execWrFrame1 v s
  | .wrFrame2 v => Sys2Proof.Machine.execWrFrame2 v s
  | .wrRingData k v => Sys2Proof.Machine.execWrRingData k v s
  | .wrReserved off v => Sys2Proof.Machine.execWrReserved off v s
  | .pktTower bs => Sys2Proof.Machine.execPktTower bs s
  | .pktRain bs => Sys2Proof.Machine.execPktRain bs s
  | .pktLtng bs => Sys2Proof.Machine.execPktLtng bs s
  | .pktAtlas05 bs => Sys2Proof.Machine.execPktAtlas05 bs s
  | .pktAtlas06 bs => Sys2Proof.Machine.execPktAtlas06 bs s
  | .pktAtlas07 bs => Sys2Proof.Machine.execPktAtlas07 bs s
  | .pktAtlas25 bs => Sys2Proof.Machine.execPktAtlas25 bs s
  | .pktAtlas26 bs => Sys2Proof.Machine.execPktAtlas26 bs s
  | .pktAtlas27 bs => Sys2Proof.Machine.execPktAtlas27 bs s
  | .pktNotos bs => Sys2Proof.Machine.execPktNotos bs s
  | .pktIris31 bs => Sys2Proof.Machine.execPktIris31 bs s
  | .pktIris38 bs => Sys2Proof.Machine.execPktIris38 bs s

end Sys2Proof.Machine
end

