-- ==== Sys2Proof/Machine/Fetch.lean ====
section
/-! DEFINITION. The helpers of `step` and `withFetchWord`: the refusal of a rejected word
(45_host_interface.md R267), and the state in which the next pulse completes a given frame
(42_bit_assembler.md R174, R175; log entry 10). -/

namespace Sys2Proof.Machine

/-- The refusal of a word that is no operation (45_host_interface.md R267). -/
def refusalOf : Reject → Refusal
  | .reservedBits => .reservedBits
  | .unusedField => .unusedField
  | .noMatch => .noMatch

/-- `WR PULSE_IN, d` as a stimulus word (30_encoding.md R101, 41_pulse_classifier.md R151). -/
def pulseInWord (d : Word) : StimWord := 4#4 ++ 0#15 ++ 0x02C#13 ++ d

/-- The frame buffer with the bytes of `bs` and zeros after them. -/
def frameBuffer (bs : List Byte) : Vector Byte 10 := Vector.ofFn (fun i => bs.getD i.val 0)

/-- The byte `x` without its lowest bit. -/
def clearBit0 (x : Byte) : Byte := x &&& 0xFE

/-- A state one bit short of the frame `bs`, with the mark that carries its last bit as the next
stimulus: the demodulator takes pulses from `PULSE_IN` (41_pulse_classifier.md R151), the bands are those
of reset (10_state.md R39), a 0 is 200 and a 1 is 400 (41_pulse_classifier.md R154). -/
def beforeLastBit (s : State) (bs : List Byte) : State :=
  { s with
    demEn := true
    srcSel := true
    syncUs := 600
    zeroUs := 200
    oneUs := 400
    tolUs := 90
    nbits := BitVec.ofNat 7 (8 * bs.length - 1)
    b := frameBuffer (bs.dropLast ++ [clearBit0 (bs.getLastD 0)])
    stim := pulseInWord (if (bs.getLastD 0).getLsbD 0 then 400 else 200) :: s.stim }

end Sys2Proof.Machine
end

