-- ==== Sys2Proof/Machine/Step.lean ====
section
/-! DEFINITION. One step: the next stimulus word is taken, decoded and run (30_encoding.md R101, R103;
log entry 1); and where the next operation is fetched from. -/

namespace Sys2Proof.Machine

/-- One atomic step (20_memory.md R67). With no stimulus left the run has ended (60_exceptions.md R303)
and nothing changes; a word that is no operation is refused (45_host_interface.md R267). -/
def step (s : State) : Host.Outcome State Fault Refusal :=
  match s.stim with
  | [] => .next s
  | w :: rest =>
    match decode (.stimulus w) with
    | .ok i => exec i (beginStep s rest)
    | .error r => .refused (refusalOf r)

/-- `s` with an operation where the next step takes it: a stimulus word stands first in `stim`; a packet
row's frame stands in the frame buffer but for its last bit, which the next stimulus brings (log entry 10). -/
def State.withFetchWord (s : State) (nbits w : Nat) : State :=
  if nbits < 64 then
    match tableFrame w with
    | some bs => beforeLastBit s bs
    | none => s
  else { s with stim := BitVec.ofNat 64 w :: s.stim }

end Sys2Proof.Machine
end

