-- ==== Sys2Proof/Machine/OpcodeTable.lean ====
section
/-! DEFINITION. opcode_table.json itself: the mask and match of every row in file order
(30_encoding.md R103), and which row each constructor stands for. The decoder does not use it; the laws
and the statements hold the decoder and the encoder against it. -/

namespace Sys2Proof.Machine

/-- A row over the 64-bit stimulus word. -/
structure StimRow where
  mask : StimWord
  pat : StimWord

/-- A `packet` row, over byte 2 of a frame of `len` bytes. -/
structure FrameRow where
  mask : Byte
  pat : Byte
  len : Nat

/-- The word matches the row: `word & mask == match` (30_encoding.md R103). -/
def StimRow.hits (r : StimRow) (w : StimWord) : Bool := w &&& r.mask == r.pat

/-- The frame matches the row: its length, and `b[2] & mask == match`. -/
def FrameRow.hits (r : FrameRow) (bs : List Byte) : Bool :=
  bs.length == r.len && bs.getD 2 0 &&& r.mask == r.pat

/-- The `refused` rows, numbers 0 to 5. -/
def refusedRows : List StimRow :=
  [⟨0xF000000100000000, 0x3000000100000000⟩,
   ⟨0xF000000200000000, 0x3000000200000000⟩,
   ⟨0xF000000100000000, 0x4000000100000000⟩,
   ⟨0xF000000200000000, 0x4000000200000000⟩,
   ⟨0xE000000000000000, 0x6000000000000000⟩,
   ⟨0x8000000000000000, 0x8000000000000000⟩]

/-- The `event` rows, numbers 6 to 9. -/
def eventRows : List StimRow :=
  [⟨0xFFFFFFFF00000000, 0x0000000000000000⟩,
   ⟨0xFFFFFFFFFFFFFFFE, 0x1000000000000000⟩,
   ⟨0xFFFFFFFFFFFFFFFF, 0x2000000000000000⟩,
   ⟨0xFFFFFFFFFFFFFFFF, 0x5000000000000000⟩]

/-- The `mmio-rd` rows, numbers 10 to 39. -/
def mmioReadRows : List StimRow :=
  [⟨0xFFFFFFFFFFFFFFFF, 0x3000000000000000⟩,
   ⟨0xFFFFFFFFFFFFFFFF, 0x3000000400000000⟩,
   ⟨0xFFFFFFFFFFFFFFFF, 0x3000000800000000⟩,
   ⟨0xFFFFFFFFFFFFFFFF, 0x3000000C00000000⟩,
   ⟨0xFFFFFFFFFFFFFFFF, 0x3000001000000000⟩,
   ⟨0xFFFFFFFFFFFFFFFF, 0x3000001400000000⟩,
   ⟨0xFFFFFFFFFFFFFFFF, 0x3000001800000000⟩,
   ⟨0xFFFFFFFFFFFFFFFF, 0x3000001C00000000⟩,
   ⟨0xFFFFFFFFFFFFFFFF, 0x3000002000000000⟩,
   ⟨0xFFFFFFFFFFFFFFFF, 0x3000002400000000⟩,
   ⟨0xFFFFFFFFFFFFFFFF, 0x3000002800000000⟩,
   ⟨0xFFFFFFFFFFFFFFFF, 0x3000002C00000000⟩,
   ⟨0xFFFFFFFFFFFFFFFF, 0x3000003000000000⟩,
   ⟨0xFFFFFFFFFFFFFFFF, 0x3000003400000000⟩,
   ⟨0xFFFFFFFFFFFFFFFF, 0x3000004000000000⟩,
   ⟨0xFFFFFFFFFFFFFFFF, 0x3000004400000000⟩,
   ⟨0xFFFFFFFFFFFFFFFF, 0x3000004800000000⟩,
   ⟨0xFFFFFFFFFFFFFFFF, 0x3000004C00000000⟩,
   ⟨0xFFFFFFFFFFFFFFFF, 0x3000005000000000⟩,
   ⟨0xFFFFFFFFFFFFFFFF, 0x3000006000000000⟩,
   ⟨0xFFFFFFFFFFFFFFFF, 0x3000006400000000⟩,
   ⟨0xFFFFFFFFFFFFFFFF, 0x3000006800000000⟩,
   ⟨0xFFFFFFFFFFFFFFFF, 0x3000006C00000000⟩,
   ⟨0xFFFFFFFFFFFFFFFF, 0x3000007000000000⟩,
   ⟨0xFFFFFFFFFFFFFFFF, 0x3000007400000000⟩,
   ⟨0xFFFFFFFFFFFFFFFF, 0x3000008000000000⟩,
   ⟨0xFFFFFFFFFFFFFFFF, 0x3000008400000000⟩,
   ⟨0xFFFFFFFFFFFFFFFF, 0x3000008800000000⟩,
   ⟨0xFFFFF003FFFFFFFF, 0x3000100000000000⟩,
   ⟨0xFFFFE003FFFFFFFF, 0x3000000000000000⟩]

/-- The `mmio-wr` rows, numbers 40 to 69. -/
def mmioWriteRows : List StimRow :=
  [⟨0xFFFFFFFF00000000, 0x4000000000000000⟩,
   ⟨0xFFFFFFFF00000000, 0x4000000400000000⟩,
   ⟨0xFFFFFFFF00000000, 0x4000000800000000⟩,
   ⟨0xFFFFFFFF00000000, 0x4000000C00000000⟩,
   ⟨0xFFFFFFFF00000000, 0x4000001000000000⟩,
   ⟨0xFFFFFFFF00000000, 0x4000001400000000⟩,
   ⟨0xFFFFFFFF00000000, 0x4000001800000000⟩,
   ⟨0xFFFFFFFF00000000, 0x4000001C00000000⟩,
   ⟨0xFFFFFFFF00000000, 0x4000002000000000⟩,
   ⟨0xFFFFFFFF00000000, 0x4000002400000000⟩,
   ⟨0xFFFFFFFF00000000, 0x4000002800000000⟩,
   ⟨0xFFFFFFFF00000000, 0x4000002C00000000⟩,
   ⟨0xFFFFFFFF00000000, 0x4000003000000000⟩,
   ⟨0xFFFFFFFF00000000, 0x4000003400000000⟩,
   ⟨0xFFFFFFFF00000000, 0x4000004000000000⟩,
   ⟨0xFFFFFFFF00000000, 0x4000004400000000⟩,
   ⟨0xFFFFFFFF00000000, 0x4000004800000000⟩,
   ⟨0xFFFFFFFF00000000, 0x4000004C00000000⟩,
   ⟨0xFFFFFFFF00000000, 0x4000005000000000⟩,
   ⟨0xFFFFFFFF00000000, 0x4000006000000000⟩,
   ⟨0xFFFFFFFF00000000, 0x4000006400000000⟩,
   ⟨0xFFFFFFFF00000000, 0x4000006800000000⟩,
   ⟨0xFFFFFFFF00000000, 0x4000006C00000000⟩,
   ⟨0xFFFFFFFF00000000, 0x4000007000000000⟩,
   ⟨0xFFFFFFFF00000000, 0x4000007400000000⟩,
   ⟨0xFFFFFFFF00000000, 0x4000008000000000⟩,
   ⟨0xFFFFFFFF00000000, 0x4000008400000000⟩,
   ⟨0xFFFFFFFF00000000, 0x4000008800000000⟩,
   ⟨0xFFFFF00300000000, 0x4000100000000000⟩,
   ⟨0xFFFFE00300000000, 0x4000000000000000⟩]

/-- Every row over the stimulus word, in file order. -/
def stimRows : List StimRow := refusedRows ++ eventRows ++ mmioReadRows ++ mmioWriteRows

/-- The `packet` rows, numbers 70 to 81. -/
def frameRows : List FrameRow :=
  [⟨0x3F, 0x04, 7⟩,
   ⟨0x3F, 0x30, 8⟩,
   ⟨0x3F, 0x2F, 9⟩,
   ⟨0x3F, 0x05, 10⟩,
   ⟨0x3F, 0x06, 10⟩,
   ⟨0x3F, 0x07, 10⟩,
   ⟨0x3F, 0x25, 10⟩,
   ⟨0x3F, 0x26, 10⟩,
   ⟨0x3F, 0x27, 10⟩,
   ⟨0x3F, 0x20, 8⟩,
   ⟨0x3F, 0x31, 8⟩,
   ⟨0x3F, 0x38, 8⟩]

/-- The number of the row a constructor stands for. -/
def rowNumber : Instr → Nat
  | .refusedRdMisalignedBit0 _ _ => 0
  | .refusedRdMisalignedBit1 _ _ => 1
  | .refusedWrMisalignedBit0 _ _ => 2
  | .refusedWrMisalignedBit1 _ _ => 3
  | .refusedKind6to7 _ => 4
  | .refusedKind8to15 _ => 5
  | .tick _ => 6
  | .edge _ => 7
  | .consume => 8
  | .hwReset => 9
  | .rdId => 10
  | .rdCtrl => 11
  | .rdStatus => 12
  | .rdRingPtr => 13
  | .rdFilterUs => 14
  | .rdSyncUs => 15
  | .rdZeroUs => 16
  | .rdOneUs => 17
  | .rdTolUs => 18
  | .rdSyncMin => 19
  | .rdTimer => 20
  | .rdPulseIn => 21
  | .rdDemod => 22
  | .rdPrevTs => 23
  | .rdOvfCount => 24
  | .rdCsumErrCount => 25
  | .rdParErrCount => 26
  | .rdFrameOkCount => 27
  | .rdResSeq => 28
  | .rdRes0 => 29
  | .rdRes1 => 30
  | .rdRes2 => 31
  | .rdRes3 => 32
  | .rdRes4 => 33
  | .rdRes5 => 34
  | .rdFrame0 => 35
  | .rdFrame1 => 36
  | .rdFrame2 => 37
  | .rdRingData _ => 38
  | .rdReserved _ => 39
  | .wrId _ => 40
  | .wrCtrl _ => 41
  | .wrStatus _ => 42
  | .wrRingPtr _ => 43
  | .wrFilterUs _ => 44
  | .wrSyncUs _ => 45
  | .wrZeroUs _ => 46
  | .wrOneUs _ => 47
  | .wrTolUs _ => 48
  | .wrSyncMin _ => 49
  | .wrTimer _ => 50
  | .wrPulseIn _ => 51
  | .wrDemod _ => 52
  | .wrPrevTs _ => 53
  | .wrOvfCount _ => 54
  | .wrCsumErrCount _ => 55
  | .wrParErrCount _ => 56
  | .wrFrameOkCount _ => 57
  | .wrResSeq _ => 58
  | .wrRes0 _ => 59
  | .wrRes1 _ => 60
  | .wrRes2 _ => 61
  | .wrRes3 _ => 62
  | .wrRes4 _ => 63
  | .wrRes5 _ => 64
  | .wrFrame0 _ => 65
  | .wrFrame1 _ => 66
  | .wrFrame2 _ => 67
  | .wrRingData _ _ => 68
  | .wrReserved _ _ => 69
  | .pktTower _ => 70
  | .pktRain _ => 71
  | .pktLtng _ => 72
  | .pktAtlas05 _ => 73
  | .pktAtlas06 _ => 74
  | .pktAtlas07 _ => 75
  | .pktAtlas25 _ => 76
  | .pktAtlas26 _ => 77
  | .pktAtlas27 _ => 78
  | .pktNotos _ => 79
  | .pktIris31 _ => 80
  | .pktIris38 _ => 81

/-- The code matches the row the constructor stands for. -/
def rowHits (i : Instr) (c : Code) : Bool :=
  match c with
  | .stimulus w =>
    match stimRows[rowNumber i]? with
    | some r => r.hits w
    | none => false
  | .frame bs =>
    match frameRows[rowNumber i - 70]? with
    | some r => r.hits bs
    | none => false

/-- The first row in file order that the word matches (30_encoding.md R103). -/
def firstRow (w : StimWord) : Option Nat := stimRows.findIdx? (fun r => r.hits w)

end Sys2Proof.Machine
end

