-- ==== Sys2Proof/Safety.lean ====
section
/-! DEFINITION. The terms in which claims about the machine are written: the invariant of its states,
the states runs reach, the frame of a demodulator step, and what a run shows (60_exceptions.md R303). -/

namespace Sys2Proof.Machine

/-- Bit `k` of the frame in wire order: bit `7 - (k mod 8)` of byte `k div 8` (20_memory.md R64). -/
def frameBit (s : State) (k : Nat) : Bool := (frameByte s (k / 8)).getLsbD (7 - k % 8)

/-- Some decoder accepts exactly these bytes: length, discriminator, checksum and parity
(44_decoders.md R201). -/
def acceptable (bs : List Byte) : Bool :=
  priority.any (fun f => formatMatches f bs && checksum bs && formatParity f bs)

/-- What holds of every state between two steps of a run from reset. -/
structure MachineInv (s : State) : Prop where
  /-- The ring RAM's list is in canonical form. -/
  ringWf : Memory.wf s.ring = true
  /-- Every listed slot exists (20_memory.md R61). -/
  ringBelow : Memory.below s.params.ringSize s.ring = true
  /-- `wr` is a slot (10_state.md R24). -/
  wrLt : s.wr.toNat < s.params.ringSize
  /-- `rd` is a slot (10_state.md R25). -/
  rdLt : s.rd.toNat < s.params.ringSize
  /-- Fewer than `MAX_BITS` bits are held between steps (10_state.md R33, 42_bit_assembler.md R176). -/
  nbitsLt : s.nbits.toNat < maxBits
  /-- Bits are collected only after a preamble (42_bit_assembler.md R173). -/
  syncBefore : s.nbits ≠ 0 → s.syncCnt ≠ 0
  /-- The bits not yet received are 0 (42_bit_assembler.md R174, R183). -/
  restZero : ∀ k, s.nbits.toNat ≤ k → k < maxBits → frameBit s k = false
  /-- No complete prefix is one a decoder accepts: it was tried at its own byte boundary
  (42_bit_assembler.md R181). -/
  noneAcceptable : ∀ n, n ≤ s.nbits.toNat / 8 → acceptable (framePrefix s n) = false

/-- A state right after reset, for some parameters and some stimuli to come (70_reset_and_hazards.md
R310; every order of steps is some list of stimuli, 20_memory.md R67). -/
def Initial (s : State) : Prop := ∃ p ws, s = { State.resetWith p with stim := ws }

/-- The states that runs from reset reach. -/
inductive Reachable : State → Prop where
  | initial {s : State} : Initial s → Reachable s
  | next {s t : State} : Reachable s → step s = .next t → Reachable t

/-- `t` differs from `s` at most in what `BAS_PULSE` may write (41_pulse_classifier.md R150, *Writes*):
the BAS state, the frame, the failure and success counters, the latch, the record port and the events. -/
def DemOnly (s t : State) : Prop :=
  t = { s with
    syncCnt := t.syncCnt
    nbits := t.nbits
    b := t.b
    csumErrCount := t.csumErrCount
    parErrCount := t.parErrCount
    frameOkCount := t.frameOkCount
    res := t.res
    resSeq := t.resSeq
    resNew := t.resNew
    recPort := t.recPort
    events := t.events }

/-- No `CONSUME` is enabled (60_exceptions.md R303). -/
def Quiescent (s : State) : Prop := consumeEnabled s = false

/-- The records that `k` steps emit on the record port, in order (45_host_interface.md R276,
60_exceptions.md R303). -/
def emitted : Nat → State → List RecWords
  | 0, _ => []
  | k + 1, s =>
    match s.stim, step s with
    | _ :: _, .next t => t.recPort.toList ++ emitted k t
    | _, _ => []

/-- The words that `k` steps return to HOST, in order (45_host_interface.md R260). -/
def replies : Nat → State → List Word
  | 0, _ => []
  | k + 1, s =>
    match s.stim, step s with
    | _ :: _, .next t => t.rdata.toList ++ replies k t
    | _, _ => []

/-- What an accept leaves, with `r` the words of its record (44_decoders.md R201, 45_host_interface.md
R276). -/
def accepted (s : State) (r : RecWords) : State :=
  { s with
    res := r
    resSeq := s.resSeq + 1
    resNew := true
    frameOkCount := s.frameOkCount + 1
    recPort := some r
    events := s.events ++ [.frameOk] }

/-- What a frame reset leaves (42_bit_assembler.md R183). -/
def cleared (s : State) : State :=
  { s with nbits := 0, syncCnt := 0, b := Vector.replicate 10 0 }

/-- The band around `c` on unbounded integers (00_scope.md R12). -/
def InBand (s : State) (c : BitVec 16) (d : Int) : Prop :=
  max ((c.toNat : Int) - s.tolUs.toNat) 0 ≤ d ∧ d ≤ (c.toNat : Int) + s.tolUs.toNat

/-- Slot `i` of the ring RAM, taken modulo `RING_SIZE` (20_memory.md R61). -/
def slot (s : State) (i : Nat) : Word := Memory.read s.ring (i % s.params.ringSize)

/-- The stored edges that DEM has not consumed, oldest first: slots `rd + 1 .. wr` modulo `RING_SIZE`
(10_state.md R26, 40_edge_capture.md R131). -/
def pending (s : State) : List Word :=
  (List.range (ringCount s)).map (fun i => slot s (s.rd.toNat + 1 + i))

/-- Byte `i` of a packet as a number. -/
def byteNum (bs : List Byte) (i : Nat) : Nat := (bs.getD i 0).toNat

/-- The letter of a channel code in `CH_LUT_A` as a number (44_decoders.md R240). -/
def letterA (code : Nat) : Nat := [0x43, 0x45, 0x42, 0x41].getD code 0

/-- `RES0` of a record as a number: `FMT`, `MTYPE`, `CH_CODE`, `CH_CHAR`, `BATT`, `LEN` (30_encoding.md
R112, 44_decoders.md R203). -/
def headerNum (fmt mtype letter len : Nat) (bs : List Byte) : Nat :=
  fmt + 2 ^ 4 * mtype + 2 ^ 10 * (byteNum bs 0 / 64) + 2 ^ 12 * letter
    + 2 ^ 20 * (byteNum bs 2 / 64 % 2) + 2 ^ 21 * len

/-- The bytes `lo .. hi` of a packet all have even parity (43_validator.md R191). -/
def EvenParity (bs : List Byte) (lo hi : Nat) : Prop :=
  ∀ i, lo ≤ i → i ≤ hi → byteParity (bs.getD i 0) = true

/-- 1 where an Atlas message carries lightning fields, `MTYPE >= 0x25` (30_encoding.md R88). -/
def ltngFlag (mtype : Nat) : Nat := if 0x25 ≤ mtype then 1 else 0

/-- Every data mark of a list is in the zero or the one band, and none has duration 0, which `PULSE_IN`
drops (41_pulse_classifier.md R151, R152). -/
def DataMarks (s : State) (ds : List Word) : Prop :=
  ∀ d ∈ ds, d ≠ 0 ∧ (classify s d = .zero ∨ classify s d = .one)

end Sys2Proof.Machine
end

