-- ==== Sys2Proof/WellFormed.lean ====
section
/-! DEFINITION. Which terms of `Instr` some encoding stands for: a reserved offset is aligned, below the
ring window and names no register; a packet row has its format's length and its own `MTYPE`. -/

namespace Sys2Proof

/-- The offsets of 10_state.md R42 below the `RING_DATA` window that name a register. -/
def namedOffsets : List (BitVec 13) :=
  [0x000, 0x004, 0x008, 0x00C, 0x010, 0x014, 0x018, 0x01C, 0x020, 0x024,
   0x028, 0x02C, 0x030, 0x034, 0x040, 0x044, 0x048, 0x04C, 0x050, 0x060,
   0x064, 0x068, 0x06C, 0x070, 0x074, 0x080, 0x084, 0x088]

/-- A reserved offset: aligned, below 0x1000, no register's (10_state.md R42). Every offset from 0x1000
on is the `RING_DATA` window's row (opcode_table.json). -/
def reservedOffset (off : BitVec 13) : Bool :=
  off.extractLsb 1 0 == 0#2 && !off.getLsbD 12 && !namedOffsets.contains off

/-- A packet of `len` bytes whose `b[2][5:0]` is `code` (30_encoding.md R84, opcode_table.json). -/
def packetShape (len : Nat) (code : BitVec 6) (bs : List Byte) : Bool :=
  bs.length == len && (bs.getD 2 0).extractLsb 5 0 == code

/-- The terms that an encoding stands for. -/
def WellFormed : Instr → Bool
  | .refusedRdMisalignedBit0 _ _ => true
  | .refusedRdMisalignedBit1 _ _ => true
  | .refusedWrMisalignedBit0 _ _ => true
  | .refusedWrMisalignedBit1 _ _ => true
  | .refusedKind6to7 _ => true
  | .refusedKind8to15 _ => true
  | .tick _ => true
  | .edge _ => true
  | .consume => true
  | .hwReset => true
  | .rdId => true
  | .rdCtrl => true
  | .rdStatus => true
  | .rdRingPtr => true
  | .rdFilterUs => true
  | .rdSyncUs => true
  | .rdZeroUs => true
  | .rdOneUs => true
  | .rdTolUs => true
  | .rdSyncMin => true
  | .rdTimer => true
  | .rdPulseIn => true
  | .rdDemod => true
  | .rdPrevTs => true
  | .rdOvfCount => true
  | .rdCsumErrCount => true
  | .rdParErrCount => true
  | .rdFrameOkCount => true
  | .rdResSeq => true
  | .rdRes0 => true
  | .rdRes1 => true
  | .rdRes2 => true
  | .rdRes3 => true
  | .rdRes4 => true
  | .rdRes5 => true
  | .rdFrame0 => true
  | .rdFrame1 => true
  | .rdFrame2 => true
  | .rdRingData _ => true
  | .rdReserved off => reservedOffset off
  | .wrId _ => true
  | .wrCtrl _ => true
  | .wrStatus _ => true
  | .wrRingPtr _ => true
  | .wrFilterUs _ => true
  | .wrSyncUs _ => true
  | .wrZeroUs _ => true
  | .wrOneUs _ => true
  | .wrTolUs _ => true
  | .wrSyncMin _ => true
  | .wrTimer _ => true
  | .wrPulseIn _ => true
  | .wrDemod _ => true
  | .wrPrevTs _ => true
  | .wrOvfCount _ => true
  | .wrCsumErrCount _ => true
  | .wrParErrCount _ => true
  | .wrFrameOkCount _ => true
  | .wrResSeq _ => true
  | .wrRes0 _ => true
  | .wrRes1 _ => true
  | .wrRes2 _ => true
  | .wrRes3 _ => true
  | .wrRes4 _ => true
  | .wrRes5 _ => true
  | .wrFrame0 _ => true
  | .wrFrame1 _ => true
  | .wrFrame2 _ => true
  | .wrRingData _ _ => true
  | .wrReserved off _ => reservedOffset off
  | .pktTower bs => packetShape 7 0x04 bs
  | .pktRain bs => packetShape 8 0x30 bs
  | .pktLtng bs => packetShape 9 0x2F bs
  | .pktAtlas05 bs => packetShape 10 0x05 bs
  | .pktAtlas06 bs => packetShape 10 0x06 bs
  | .pktAtlas07 bs => packetShape 10 0x07 bs
  | .pktAtlas25 bs => packetShape 10 0x25 bs
  | .pktAtlas26 bs => packetShape 10 0x26 bs
  | .pktAtlas27 bs => packetShape 10 0x27 bs
  | .pktNotos bs => packetShape 8 0x20 bs
  | .pktIris31 bs => packetShape 8 0x31 bs
  | .pktIris38 bs => packetShape 8 0x38 bs

end Sys2Proof
end

