-- ==== Sys2Proof/Certificates/Slice0/Obligations.lean ====
section
/-! DEFINITION. The statements for the provers. Each docstring says which rules of the spec it formalises. -/

open Sys2Proof Sys2Proof.Machine

/-- When the first stimulus word to come decodes to an operation, that operation is well-formed and the step
is exec of it, on the state in which that word is taken and the three outputs of the last step (record
port, read data, events) are empty. The queue of stimuli and the clearing of the outputs are the model's
own (log entries 1, 7 and 8). (30_encoding.md R101, R103; 20_memory.md R67.) -/
def Obligations.StepRunsDecodedOperation : Prop :=
  ∀ (s : State) (w : StimWord) (rest : List StimWord) (i : Instr),
    s.stim = w :: rest → decode (.stimulus w) = .ok i →
      WellFormed i = true ∧
      step s = exec i { s with recPort := none, rdata := none, events := [], stim := rest }

/-- With a stimulus word first in the queue, the step is refused exactly when: KIND is 6 to 15; or a read or
a write is at an offset that is no multiple of 4; or a bit of [59:45] is 1; or OFF is not 0 in a word of
KIND 0, 1, 2 or 5; or DATA[31:1] is not 0 in an EDGE word; or DATA is not 0 in a CONSUME, read or reset
word; or the word is a CONSUME and CONSUME is not enabled. In every other case there is a next state: no
step faults and none is stuck. (45_host_interface.md R267; 30_encoding.md R101, R103;
41_pulse_classifier.md R150; 60_exceptions.md R290, R295.) -/
def Obligations.StepRefusesExactlyTheseStimuli : Prop :=
  ∀ (s : State) (w : StimWord) (rest : List StimWord), s.stim = w :: rest →
    ((∃ r, step s = .refused r) ↔
      6 ≤ (stimKind w).toNat ∨
      ((stimKind w = 3 ∨ stimKind w = 4) ∧ (stimOff w).toNat % 4 ≠ 0) ∨
      stimZero w ≠ 0 ∨
      ((stimKind w = 0 ∨ stimKind w = 1 ∨ stimKind w = 2 ∨ stimKind w = 5) ∧ stimOff w ≠ 0) ∨
      (stimKind w = 1 ∧ 2 ≤ (stimData w).toNat) ∨
      ((stimKind w = 2 ∨ stimKind w = 3 ∨ stimKind w = 5) ∧ stimData w ≠ 0) ∨
      (stimKind w = 2 ∧ ¬ (s.demEn = true ∧ s.srcSel = false ∧ s.rd ≠ s.wr))) ∧
    ((∃ t, step s = .next t) ∨ (∃ r, step s = .refused r))

/-- For every well-formed operation, with every operand at every value the encoding admits, the decoder on
the word or the bytes the encoder writes answers that same operation. (30_encoding.md R84 to R91, R101,
R103; 45_host_interface.md R260 to R267.) -/
def Obligations.DecodeOfEncodeIsIdentity : Prop :=
  ∀ i : Instr, WellFormed i = true → decode (encode i) = .ok i

/-- If the decoder answers an operation for a stimulus word or for the bytes of a packet, that operation is
well-formed and its encoding is exactly that word or those bytes: no bit of an accepted code is dropped.
(30_encoding.md R84 to R91, R101, R103.) -/
def Obligations.EncodeOfDecodeIsIdentity : Prop :=
  ∀ (c : Code) (i : Instr), decode c = .ok i → WellFormed i = true ∧ encode i = c

/-- For every 64-bit stimulus word: the decoder answers an operation exactly where some row of the table has
word & mask == match, and the operation's row is the first such row in file order. (30_encoding.md R103;
45_host_interface.md R267.) -/
def Obligations.DecoderFollowsTheOpcodeTable : Prop :=
  ∀ w : StimWord,
    (∀ i, decode (.stimulus w) = .ok i → firstRow w = some (rowNumber i)) ∧
    ((∃ r, decode (.stimulus w) = .error r) ↔ firstRow w = none)

/-- TICK 1000, EDGE 1, CONSUME, RESET, RD STATUS, RD RING_DATA[5], WR CTRL 0x80000003 and WR PULSE_IN of
-600, a misaligned read and a reserved kind, and the bytes of one Tower packet, decode to the operations
they stand for. (30_encoding.md R101, R102, R103; 30_encoding.md R84 to R90.) -/
def Obligations.WrittenWordsDecode : Prop :=
  decode (.stimulus 0x00000000000003E8) = .ok (.tick 1000) ∧
  decode (.stimulus 0x1000000000000001) = .ok (.edge true) ∧
  decode (.stimulus 0x2000000000000000) = .ok .consume ∧
  decode (.stimulus 0x5000000000000000) = .ok .hwReset ∧
  decode (.stimulus 0x3000000800000000) = .ok .rdStatus ∧
  decode (.stimulus 0x3000101400000000) = .ok (.rdRingData 5) ∧
  decode (.stimulus 0x4000000480000003) = .ok (.wrCtrl 0x80000003) ∧
  decode (.stimulus 0x4000002CFFFFFDA8) = .ok (.wrPulseIn 0xFFFFFDA8) ∧
  decode (.stimulus 0x3000000200000000) = .ok (.refusedRdMisalignedBit1 0 0) ∧
  decode (.stimulus 0x6000000000000000) = .ok (.refusedKind6to7 0) ∧
  decode (.frame [0xC1, 0x23, 0x84, 0x3A, 0x27, 0xDE, 0xA7]) =
    .ok (.pktTower [0xC1, 0x23, 0x84, 0x3A, 0x27, 0xDE, 0xA7])

/-- Each of the six refused rows, with any operand and in any state, is refused: a misaligned read or write
as misaligned, a reserved KIND as a reserved kind. (45_host_interface.md R267; 20_memory.md R62;
30_encoding.md R101.) -/
def Obligations.RefusedRowsStop : Prop :=
  ∀ (r27 : BitVec 27) (r26 : BitVec 26) (r61 : BitVec 61) (r63 : BitVec 63) (d : Word) (s : State),
    exec (.refusedRdMisalignedBit0 r27 d) s = .refused .misaligned ∧
    exec (.refusedRdMisalignedBit1 r26 d) s = .refused .misaligned ∧
    exec (.refusedWrMisalignedBit0 r27 d) s = .refused .misaligned ∧
    exec (.refusedWrMisalignedBit1 r26 d) s = .refused .misaligned ∧
    exec (.refusedKind6to7 r61) s = .refused .reservedKind ∧
    exec (.refusedKind8to15 r63) s = .refused .reservedKind

/-- ID, TIMER, PREV_TS, the four counters, RES_SEQ and RES0 to RES5 return their word; PULSE_IN and every
reserved offset return 0; RING_DATA[i] returns slot i below RING_SIZE and 0 from RING_SIZE on. Nothing
but the read data changes. (45_host_interface.md R260; 10_state.md R42, R37, R47; 20_memory.md R63.) -/
def Obligations.PlainReadsReturnTheirState : Prop :=
  ∀ (s : State) (i : BitVec 10) (off : BitVec 13),
    exec .rdId s = .next { s with rdata := some 0x4F4F4B31 } ∧
    exec .rdTimer s = .next { s with rdata := some s.ts } ∧
    exec .rdPulseIn s = .next { s with rdata := some 0 } ∧
    exec .rdPrevTs s = .next { s with rdata := some s.prevTs } ∧
    exec .rdOvfCount s = .next { s with rdata := some s.ovfCount } ∧
    exec .rdCsumErrCount s = .next { s with rdata := some s.csumErrCount } ∧
    exec .rdParErrCount s = .next { s with rdata := some s.parErrCount } ∧
    exec .rdFrameOkCount s = .next { s with rdata := some s.frameOkCount } ∧
    exec .rdResSeq s = .next { s with rdata := some s.resSeq } ∧
    exec .rdRes0 s = .next { s with rdata := some s.res.w0 } ∧
    exec .rdRes1 s = .next { s with rdata := some s.res.w1 } ∧
    exec .rdRes2 s = .next { s with rdata := some s.res.w2 } ∧
    exec .rdRes3 s = .next { s with rdata := some s.res.w3 } ∧
    exec .rdRes4 s = .next { s with rdata := some s.res.w4 } ∧
    exec .rdRes5 s = .next { s with rdata := some s.res.w5 } ∧
    exec (.rdReserved off) s = .next { s with rdata := some 0 } ∧
    exec (.rdRingData i) s =
      .next { s with rdata := some (if i.toNat < s.params.ringSize then slot s i.toNat else 0) }

/-- CTRL is CAP_EN + 2 DEM_EN + 4 SRC_SEL + 8 IE_RES + 16 IE_OVF; RING_PTR is wr + 2^16 rd; each timing
register is its value; DEMOD is sync_cnt + 2^8 nbits; FRAMEn has b[4n+j] at weight 2^(8j). Every other
bit reads 0, and nothing but the read data changes. (45_host_interface.md R260; 10_state.md R38, R39,
R42, R47.) -/
def Obligations.PackedReadsAsNumbers : Prop :=
  ∀ s : State, ∃ ctrl ptr fi sy ze on tl mn de f0 f1 f2 : Word,
    exec .rdCtrl s = .next { s with rdata := some ctrl } ∧
    ctrl.toNat = s.capEn.toNat + 2 * s.demEn.toNat + 4 * s.srcSel.toNat + 8 * s.ieRes.toNat
      + 16 * s.ieOvf.toNat ∧
    exec .rdRingPtr s = .next { s with rdata := some ptr } ∧
    ptr.toNat = s.wr.toNat + 2 ^ 16 * s.rd.toNat ∧
    exec .rdFilterUs s = .next { s with rdata := some fi } ∧ fi.toNat = s.filterUs.toNat ∧
    exec .rdSyncUs s = .next { s with rdata := some sy } ∧ sy.toNat = s.syncUs.toNat ∧
    exec .rdZeroUs s = .next { s with rdata := some ze } ∧ ze.toNat = s.zeroUs.toNat ∧
    exec .rdOneUs s = .next { s with rdata := some on } ∧ on.toNat = s.oneUs.toNat ∧
    exec .rdTolUs s = .next { s with rdata := some tl } ∧ tl.toNat = s.tolUs.toNat ∧
    exec .rdSyncMin s = .next { s with rdata := some mn } ∧ mn.toNat = s.syncMin.toNat ∧
    exec .rdDemod s = .next { s with rdata := some de } ∧
    de.toNat = s.syncCnt.toNat + 2 ^ 8 * s.nbits.toNat ∧
    exec .rdFrame0 s = .next { s with rdata := some f0 } ∧
    f0.toNat = byteNum s.b.toList 0 + 2 ^ 8 * byteNum s.b.toList 1 + 2 ^ 16 * byteNum s.b.toList 2
      + 2 ^ 24 * byteNum s.b.toList 3 ∧
    exec .rdFrame1 s = .next { s with rdata := some f1 } ∧
    f1.toNat = byteNum s.b.toList 4 + 2 ^ 8 * byteNum s.b.toList 5 + 2 ^ 16 * byteNum s.b.toList 6
      + 2 ^ 24 * byteNum s.b.toList 7 ∧
    exec .rdFrame2 s = .next { s with rdata := some f2 } ∧
    f2.toNat = byteNum s.b.toList 8 + 2 ^ 8 * byteNum s.b.toList 9

/-- A read of STATUS returns OVF in bit 0, RES_NEW in bit 1, CFG_OVERLAP in bit 2, ovf_active in bit 3, filt
in bit 4, the BAS state code in bits 6:5 (0 with no bits and no sync count, 1 with no bits and a sync
count, 2 with bits), ring_empty in bit 7, ring_full in bit 8 and 0 above; nothing but the read data
changes. (10_state.md R26, R35, R40, R43; 45_host_interface.md R260.) -/
def Obligations.StatusReadShowsTheFlags : Prop :=
  ∀ s : State, ∃ w : Word, exec .rdStatus s = .next { s with rdata := some w } ∧
    w.getLsbD 0 = s.ovf ∧ w.getLsbD 1 = s.resNew ∧ w.getLsbD 2 = cfgOverlap s ∧
    w.getLsbD 3 = s.ovfActive ∧ w.getLsbD 4 = s.filt ∧
    (w.toNat / 2 ^ 5 % 4 = 0 ↔ s.nbits.toNat = 0 ∧ s.syncCnt.toNat = 0) ∧
    (w.toNat / 2 ^ 5 % 4 = 1 ↔ s.nbits.toNat = 0 ∧ 0 < s.syncCnt.toNat) ∧
    (w.toNat / 2 ^ 5 % 4 = 2 ↔ 0 < s.nbits.toNat) ∧
    (w.getLsbD 7 = true ↔ s.rd.toNat = s.wr.toNat) ∧
    (w.getLsbD 8 = true ↔ (s.wr.toNat + 1) % s.params.ringSize = s.rd.toNat) ∧
    w.toNat < 2 ^ 9

/-- For every read operation of the table and every state there is a word that the read returns, with no
other change; reading again in the state so left returns the same word. (20_memory.md R63;
45_host_interface.md R260, R278.) -/
def Obligations.ReadsWriteNothingAndRepeat : Prop :=
  ∀ (i : Instr) (s : State), 10 ≤ rowNumber i → rowNumber i ≤ 39 →
    ∃ v : Word, exec i s = .next { s with rdata := some v } ∧
      exec i { s with rdata := some v } = .next { s with rdata := some v }

/-- Without bit 31 the write changes the five enable bits to v[4:0] and nothing else. With bit 31 the state
is the state after hardware reset, except for TS, RES_SEQ, the six timing registers, the enables, which
are v[4:0], and the model's own outputs and stimuli, which stay. (45_host_interface.md R261, R270;
70_reset_and_hazards.md R311; 10_state.md R38.) -/
def Obligations.CtrlWriteSetsEnablesAndSoftResets : Prop :=
  ∀ (v : Word) (s : State),
    (v.getLsbD 31 = false → exec (.wrCtrl v) s = .next { s with
      capEn := v.getLsbD 0, demEn := v.getLsbD 1, srcSel := v.getLsbD 2, ieRes := v.getLsbD 3,
      ieOvf := v.getLsbD 4 }) ∧
    (v.getLsbD 31 = true → exec (.wrCtrl v) s = .next { State.resetWith s.params with
      ts := s.ts, resSeq := s.resSeq, filterUs := s.filterUs, syncUs := s.syncUs, zeroUs := s.zeroUs,
      oneUs := s.oneUs, tolUs := s.tolUs, syncMin := s.syncMin, capEn := v.getLsbD 0,
      demEn := v.getLsbD 1, srcSel := v.getLsbD 2, ieRes := v.getLsbD 3, ieOvf := v.getLsbD 4,
      recPort := s.recPort, rdata := s.rdata, events := s.events, stim := s.stim })

/-- WR STATUS, v is KIND 4 at offset 0x008; it leaves OVF & ~v[0] and RES_NEW & ~v[1] and nothing else
changed, ovf_active included. While the episode goes on (ovf_active = 1), no edge that finds the ring
full sets OVF again. With both flags set, writing 2 clears only RES_NEW. (R262.) -/
def Obligations.StatusWriteClearsOnlyWrittenFlags : Prop :=
  (∀ v : Word, decode (stim 4 0x008 v) = .ok (.wrStatus v)) ∧
  (∀ (v : Word) (s : State), exec (.wrStatus v) s = .next { s with
      ovf := s.ovf && !v.getLsbD 0, resNew := s.resNew && !v.getLsbD 1 }) ∧
  (∀ (lvl : Bool) (s t : State), s.ovfActive = true → s.ovf = false →
      exec (.edge lvl) s = .next t → t.ovf = false) ∧
  (∀ s : State, s.ovf = true → s.resNew = true →
      exec (.wrStatus 0x2) s = .next { s with resNew := false })

/-- FILTER_US, SYNC_US, ZERO_US, ONE_US and TOL_US become v mod 2^16 and SYNC_MIN becomes v mod 2^8,
whatever v is; the upper bits are ignored and nothing else changes. The words are KIND 4 at 0x010 to
0x024. WR SYNC_MIN, 0x103 sets 3. The step after reads the new value: an edge judges its delta by the
new FILTER_US. (R263.) -/
def Obligations.TimingWritesTruncate : Prop :=
  (∀ v : Word, decode (stim 4 0x010 v) = .ok (.wrFilterUs v) ∧ decode (stim 4 0x014 v) = .ok (.wrSyncUs v) ∧
    decode (stim 4 0x018 v) = .ok (.wrZeroUs v) ∧ decode (stim 4 0x01C v) = .ok (.wrOneUs v) ∧
    decode (stim 4 0x020 v) = .ok (.wrTolUs v) ∧ decode (stim 4 0x024 v) = .ok (.wrSyncMin v)) ∧
  (∀ (v : Word) (s : State), ∃ (r : BitVec 16) (m : BitVec 8),
    r.toNat = v.toNat % 2 ^ 16 ∧ m.toNat = v.toNat % 2 ^ 8 ∧
    exec (.wrFilterUs v) s = .next { s with filterUs := r } ∧
    exec (.wrSyncUs v) s = .next { s with syncUs := r } ∧
    exec (.wrZeroUs v) s = .next { s with zeroUs := r } ∧
    exec (.wrOneUs v) s = .next { s with oneUs := r } ∧
    exec (.wrTolUs v) s = .next { s with tolUs := r } ∧
    exec (.wrSyncMin v) s = .next { s with syncMin := m } ∧
    (∀ (c : BitVec 16) (d : Int), InBand { s with tolUs := r } c d ↔
      max ((c.toNat : Int) - (v.toNat % 2 ^ 16 : Nat)) 0 ≤ d ∧
        d ≤ (c.toNat : Int) + (v.toNat % 2 ^ 16 : Nat)) ∧
    (∀ lvl : Bool, s.capEn = true → (s.wr.toNat + 1) % s.params.ringSize ≠ s.rd.toNat →
      (s.ts - slot s s.wr.toNat).toNat < v.toNat % 2 ^ 16 →
      exec (.edge lvl) { s with filterUs := r } =
        .next { s with filterUs := r, filt := true, ovfActive := false })) ∧
  (∀ s : State, exec (.wrSyncMin 0x103) s = .next { s with syncMin := 3 })

/-- For OVF_COUNT, CSUM_ERR_COUNT, PAR_ERR_COUNT and FRAME_OK_COUNT, the write sets the counter to 0
whatever v is and changes nothing else; the words are KIND 4 at 0x040 to 0x04C; an increment that
precedes is lost, and one that follows counts from 0 (shown for a full-ring edge). (R264.) -/
def Obligations.CounterWritesClear : Prop :=
  (∀ v : Word, decode (stim 4 0x040 v) = .ok (.wrOvfCount v) ∧
    decode (stim 4 0x044 v) = .ok (.wrCsumErrCount v) ∧ decode (stim 4 0x048 v) = .ok (.wrParErrCount v) ∧
    decode (stim 4 0x04C v) = .ok (.wrFrameOkCount v)) ∧
  (∀ (v : Word) (s : State),
    exec (.wrOvfCount v) s = .next { s with ovfCount := 0 } ∧
    exec (.wrCsumErrCount v) s = .next { s with csumErrCount := 0 } ∧
    exec (.wrParErrCount v) s = .next { s with parErrCount := 0 } ∧
    exec (.wrFrameOkCount v) s = .next { s with frameOkCount := 0 }) ∧
  (∀ (v : Word) (s t : State) (lvl : Bool), exec (.wrOvfCount v) s = .next t → s.capEn = true →
    ringFull s = true → s.ovfActive = false → ∃ u, exec (.edge lvl) t = .next u ∧ u.ovfCount = 1)

/-- Writes to ID, RING_PTR, TIMER, DEMOD, PREV_TS, RES_SEQ, RES0 to RES5, FRAME0 to FRAME2, RING_DATA[i] and
every reserved offset, with any data, change no state; their words are KIND 4 with the offset of the
register. (R266.) -/
def Obligations.ReadOnlyAndReservedWritesIgnored : Prop :=
  (∀ (v : Word) (i : BitVec 10) (off : BitVec 13) (s : State),
    exec (.wrId v) s = .next s ∧ exec (.wrRingPtr v) s = .next s ∧ exec (.wrTimer v) s = .next s ∧
    exec (.wrDemod v) s = .next s ∧ exec (.wrPrevTs v) s = .next s ∧ exec (.wrResSeq v) s = .next s ∧
    exec (.wrRes0 v) s = .next s ∧ exec (.wrRes1 v) s = .next s ∧ exec (.wrRes2 v) s = .next s ∧
    exec (.wrRes3 v) s = .next s ∧ exec (.wrRes4 v) s = .next s ∧ exec (.wrRes5 v) s = .next s ∧
    exec (.wrFrame0 v) s = .next s ∧ exec (.wrFrame1 v) s = .next s ∧ exec (.wrFrame2 v) s = .next s ∧
    exec (.wrRingData i v) s = .next s ∧ exec (.wrReserved off v) s = .next s) ∧
  (∀ v : Word, decode (stim 4 0x000 v) = .ok (.wrId v) ∧ decode (stim 4 0x00C v) = .ok (.wrRingPtr v) ∧
    decode (stim 4 0x028 v) = .ok (.wrTimer v) ∧ decode (stim 4 0x030 v) = .ok (.wrDemod v) ∧
    decode (stim 4 0x034 v) = .ok (.wrPrevTs v) ∧ decode (stim 4 0x050 v) = .ok (.wrResSeq v) ∧
    decode (stim 4 0x060 v) = .ok (.wrRes0 v) ∧ decode (stim 4 0x064 v) = .ok (.wrRes1 v) ∧
    decode (stim 4 0x068 v) = .ok (.wrRes2 v) ∧ decode (stim 4 0x06C v) = .ok (.wrRes3 v) ∧
    decode (stim 4 0x070 v) = .ok (.wrRes4 v) ∧ decode (stim 4 0x074 v) = .ok (.wrRes5 v) ∧
    decode (stim 4 0x080 v) = .ok (.wrFrame0 v) ∧ decode (stim 4 0x084 v) = .ok (.wrFrame1 v) ∧
    decode (stim 4 0x088 v) = .ok (.wrFrame2 v)) ∧
  (∀ (i : BitVec 10) (v : Word), decode (stim 4 (0x1000 + 4 * i.setWidth 13) v) = .ok (.wrRingData i v)) ∧
  (∀ (off : BitVec 13) (v : Word), reservedOffset off = true → decode (stim 4 off v) = .ok (.wrReserved off v))

/-- With DEM_EN = 0, SRC_SEL = 0 or v = 0 the write changes nothing. Otherwise v read as a signed number
above 0 hands a mark of that duration to BAS_PULSE and v below 0 hands a space of its magnitude; the
result differs from the state before at most in what BAS_PULSE writes: prev_ts, rd, wr and RING stay.
(41_pulse_classifier.md R151; 45_host_interface.md R265.) -/
def Obligations.PulseInWriteRunsOnePulse : Prop :=
  (∀ (v : Word) (s : State), s.demEn = false ∨ s.srcSel = false ∨ v = 0 →
    exec (.wrPulseIn v) s = .next s) ∧
  (∀ (v : Word) (s : State), s.demEn = true → s.srcSel = true → v ≠ 0 →
    ∃ (p : Level) (d : Word) (t : State), exec (.wrPulseIn v) s = .next t ∧ t = basPulse p d s ∧
      (0 < v.toInt → p = .mark) ∧ (v.toInt < 0 → p = .space) ∧ d.toNat = v.toInt.natAbs ∧ DemOnly s t)

/-- TICK(k) leaves TS = (TS + k) mod 2^32 and changes nothing else; TICK(a) then TICK(b) is TICK(a + b mod
2^32); from 0xFFFFFF00, TICK 0x200 gives 0x00000100. (40_edge_capture.md R141; 10_state.md R22.) -/
def Obligations.TickAddsModulo : Prop :=
  (∀ (k : Word) (s : State), ∃ t : Word, exec (.tick k) s = .next { s with ts := t } ∧
    t.toNat = (s.ts.toNat + k.toNat) % 2 ^ 32) ∧
  (∀ (a b : Word) (s t : State), exec (.tick a) s = .next t → exec (.tick b) t = exec (.tick (a + b)) s) ∧
  (∀ s : State, s.ts = 0xFFFFFF00 → exec (.tick 0x200) s = .next { s with ts := 0x00000100 })

/-- With DEM_EN = 1, SRC_SEL = 0 and rd != wr, CONSUME sets rd to idx = (rd + 1) mod RING_SIZE and prev_ts
to the timestamp of slot idx, and hands BAS_PULSE the duration (timestamp - prev_ts) mod 2^32 as a mark
if idx is even and a space if it is odd; all else that changes is what BAS_PULSE writes. Otherwise it is
refused. (41_pulse_classifier.md R150, R153; 60_exceptions.md R298; 10_state.md R25, R31.) -/
def Obligations.ConsumeTakesTheNextEntry : Prop :=
  ∀ s : State,
    (s.demEn = true → s.srcSel = false → s.rd ≠ s.wr →
      ∃ (idx : BitVec 10) (stamp d : Word) (p : Level) (t : State),
        idx.toNat = (s.rd.toNat + 1) % s.params.ringSize ∧ stamp = slot s idx.toNat ∧
        d.toNat = (stamp.toNat + (2 ^ 32 - s.prevTs.toNat)) % 2 ^ 32 ∧
        (idx.toNat % 2 = 0 → p = .mark) ∧ (idx.toNat % 2 = 1 → p = .space) ∧
        exec .consume s = .next t ∧ t = basPulse p d { s with rd := idx, prevTs := stamp } ∧
        DemOnly { s with rd := idx, prevTs := stamp } t) ∧
    (s.demEn = false ∨ s.srcSel = true ∨ s.rd = s.wr → exec .consume s = .refused .consumeNotEnabled)

/-- With CAP_EN = 0 an edge changes nothing. With the ring full it changes nothing during an episode, and
starts one otherwise: OVF and ovf_active become 1, OVF_COUNT goes up by 1 (event RING_OVERFLOW). With
room, the episode ends; an edge whose delta is below FILTER_US also sets filt; an edge that passes, with
filt = 0 and not at the level of the next slot, changes nothing more. (40_edge_capture.md R130, R132,
R135, R136, R139.) -/
def Obligations.EdgeThatStoresNothing : Prop :=
  ∀ (lvl : Bool) (s : State),
    (s.capEn = false → exec (.edge lvl) s = .next s) ∧
    (s.capEn = true → (s.wr.toNat + 1) % s.params.ringSize = s.rd.toNat → s.ovfActive = true →
      exec (.edge lvl) s = .next s) ∧
    (s.capEn = true → (s.wr.toNat + 1) % s.params.ringSize = s.rd.toNat → s.ovfActive = false →
      exec (.edge lvl) s = .next { s with
        ovf := true, ovfCount := s.ovfCount + 1, ovfActive := true
        events := s.events ++ [.ringOverflow] }) ∧
    (s.capEn = true → (s.wr.toNat + 1) % s.params.ringSize ≠ s.rd.toNat →
      (s.ts - slot s s.wr.toNat).toNat < s.filterUs.toNat →
      exec (.edge lvl) s = .next { s with ovfActive := false, filt := true }) ∧
    (s.capEn = true → (s.wr.toNat + 1) % s.params.ringSize ≠ s.rd.toNat →
      s.filterUs.toNat ≤ (s.ts - slot s s.wr.toNat).toNat → s.filt = false →
      lvl.toNat ≠ (s.wr.toNat + 1) % s.params.ringSize % 2 →
      exec (.edge lvl) s = .next { s with ovfActive := false })

/-- With CAP_EN = 1, room in the ring and delta at least FILTER_US: if filt = 1 and lvl = wr mod 2 the slot
wr becomes TS and wr stays; if filt = 1 and lvl is the other level, or filt = 0 and lvl is the level of
the next slot, the next slot becomes TS and wr moves to it. Every other slot reads as before, filt and
ovf_active are 0, and nothing else changes. (40_edge_capture.md R130, R131, R133, R136; 20_memory.md
R61, R68, R69.) -/
def Obligations.EdgeThatStores : Prop :=
  ∀ (lvl : Bool) (s : State), Memory.wf s.ring = true → s.capEn = true →
    (s.wr.toNat + 1) % s.params.ringSize ≠ s.rd.toNat →
    s.filterUs.toNat ≤ (s.ts - slot s s.wr.toNat).toNat →
    (s.filt = true → lvl.toNat = s.wr.toNat % 2 →
      ∃ t, exec (.edge lvl) s = .next t ∧
        t = { s with ring := t.ring, filt := false, ovfActive := false } ∧
        ∀ i, i < s.params.ringSize →
          slot t i = if i = s.wr.toNat % s.params.ringSize then s.ts else slot s i) ∧
    ((s.filt = true ∧ lvl.toNat ≠ s.wr.toNat % 2) ∨
        (s.filt = false ∧ lvl.toNat = (s.wr.toNat + 1) % s.params.ringSize % 2) →
      ∃ t, exec (.edge lvl) s = .next t ∧
        t = { s with ring := t.ring, wr := t.wr, filt := false, ovfActive := false } ∧
        t.wr.toNat = (s.wr.toNat + 1) % s.params.ringSize ∧
        ∀ i, i < s.params.ringSize →
          slot t i = if i = (s.wr.toNat + 1) % s.params.ringSize then s.ts else slot s i)

/-- EDGE writes at most RING, wr, filt, ovf_active, OVF and OVF_COUNT (and the event). With both cursors on
slots and a canonical ring, no slot but wr and wr + 1 changes, slot rd does not change unless rd = wr,
no unconsumed entry from rd + 1 to wr - 1 changes, and a slot i that changes takes TS from an edge whose
level is i mod 2. (40_edge_capture.md R137, R138, R131.) -/
def Obligations.EdgeNeverHarmsAnEntry : Prop :=
  ∀ (lvl : Bool) (s t : State), exec (.edge lvl) s = .next t →
    t = { s with
      ring := t.ring, wr := t.wr, filt := t.filt, ovfActive := t.ovfActive, ovf := t.ovf
      ovfCount := t.ovfCount, events := t.events } ∧
    (Memory.wf s.ring = true → s.wr.toNat < s.params.ringSize → s.rd.toNat < s.params.ringSize →
      (∀ i, i < s.params.ringSize → slot t i ≠ slot s i →
        (i = s.wr.toNat ∨ i = (s.wr.toNat + 1) % s.params.ringSize) ∧ slot t i = s.ts ∧
          lvl.toNat = i % 2) ∧
      (s.rd ≠ s.wr → slot t s.rd.toNat = slot s s.rd.toNat) ∧
      (∀ k, k + 1 < ringCount s → slot t (s.rd.toNat + 1 + k) = slot s (s.rd.toNat + 1 + k)))

/-- HW_RESET leaves every slot of the ring, both cursors, TS, prev_ts, the counters, the latch, RES_SEQ,
every flag, every enable and the frame at 0, and FILTER_US 100, SYNC_US 600, ZERO_US 200, ONE_US 400,
TOL_US 90, SYNC_MIN 2; no record is on the port, irq is 0, and a read of STATUS then returns 0x80. The
model's parameters and stimuli to come stay (log entry 13). State.reset is such a state.
(70_reset_and_hazards.md R310, R311; 45_host_interface.md R260; 10_state.md R22 to R39, R43.) -/
def Obligations.HardwareResetTable : Prop :=
  (∀ s : State, ∃ t, exec .hwReset s = .next t ∧
    t.ts = 0 ∧ (∀ i, slot t i = 0) ∧ t.wr = 0 ∧ t.rd = 0 ∧ t.filt = false ∧ t.ovfActive = false ∧
    t.ovf = false ∧ t.ovfCount = 0 ∧ t.prevTs = 0 ∧ t.syncCnt = 0 ∧ t.nbits = 0 ∧
    (∀ i, i < 10 → t.b[i]? = some 0) ∧ t.csumErrCount = 0 ∧ t.parErrCount = 0 ∧ t.frameOkCount = 0 ∧
    t.res = ⟨0, 0, 0, 0, 0, 0⟩ ∧ t.resSeq = 0 ∧ t.resNew = false ∧
    t.capEn = false ∧ t.demEn = false ∧ t.srcSel = false ∧ t.ieRes = false ∧ t.ieOvf = false ∧
    t.filterUs = 100 ∧ t.syncUs = 600 ∧ t.zeroUs = 200 ∧ t.oneUs = 400 ∧ t.tolUs = 90 ∧ t.syncMin = 2 ∧
    t.recPort = none ∧ irq t = false ∧ cfgOverlap t = false ∧ t.params = s.params ∧ t.stim = s.stim ∧
    exec .rdStatus t = .next { t with rdata := some 0x80 }) ∧
  (∃ s : State, exec .hwReset s = .next State.reset)

/-- For every operation but HW_RESET that answers a next state: TS is unchanged unless the operation is
TICK(k), which adds k; and RES_SEQ is unchanged unless the step accepted a frame, when it goes up by 1,
FRAME_OK_COUNT goes up by 1, RES_NEW is 1 and the record port carries the latch.
(70_reset_and_hazards.md R310; 10_state.md R22, R37; 40_edge_capture.md R141, R142.) -/
def Obligations.OnlyResetClearsTimerAndSequence : Prop :=
  ∀ (i : Instr) (s t : State), exec i s = .next t → i ≠ .hwReset →
    (t.ts = s.ts ∨ ∃ k, i = .tick k ∧ t.ts = s.ts + k) ∧
    (t.resSeq = s.resSeq ∨
      (t.resSeq = s.resSeq + 1 ∧ t.frameOkCount = s.frameOkCount + 1 ∧ t.resNew = true ∧
        t.recPort = some t.res))

/-- inband(d, C) holds exactly where max(C - TOL_US, 0) <= d <= C + TOL_US over the integers. CLASSIFY
answers SYNC inside the sync band; ZERO inside the zero band and outside the sync band; ONE inside the
one band and outside the other two; NONE outside all three. (R12; R152.) -/
def Obligations.ClassifyFollowsTheBands : Prop :=
  ∀ (s : State) (d : Word),
    (∀ c : BitVec 16, inband s d c = true ↔ InBand s c d.toNat) ∧
    (classify s d = .sync ↔ InBand s s.syncUs d.toNat) ∧
    (classify s d = .zero ↔ ¬ InBand s s.syncUs d.toNat ∧ InBand s s.zeroUs d.toNat) ∧
    (classify s d = .one ↔ ¬ InBand s s.syncUs d.toNat ∧ ¬ InBand s s.zeroUs d.toNat ∧
      InBand s s.oneUs d.toNat) ∧
    (classify s d = .miss ↔ ¬ InBand s s.syncUs d.toNat ∧ ¬ InBand s s.zeroUs d.toNat ∧
      ¬ InBand s s.oneUs d.toNat)

/-- With SYNC_US = 600, ZERO_US = 200, ONE_US = 400 and TOL_US = 90: 0..109 NONE, 110..290 ZERO, 291..309
NONE, 310..490 ONE, 491..509 NONE, 510..690 SYNC, 691 and up NONE; no duration is in two bands and
CFG_OVERLAP = 0. The registers hold these values after reset. (R154.) -/
def Obligations.BandTableAtReset : Prop :=
  (∀ p, (State.resetWith p).syncUs = 600 ∧ (State.resetWith p).zeroUs = 200 ∧
    (State.resetWith p).oneUs = 400 ∧ (State.resetWith p).tolUs = 90) ∧
  ∀ (s : State) (d : Word), s.syncUs = 600 → s.zeroUs = 200 → s.oneUs = 400 → s.tolUs = 90 →
    (d.toNat ≤ 109 → classify s d = .miss) ∧
    (110 ≤ d.toNat → d.toNat ≤ 290 → classify s d = .zero) ∧
    (291 ≤ d.toNat → d.toNat ≤ 309 → classify s d = .miss) ∧
    (310 ≤ d.toNat → d.toNat ≤ 490 → classify s d = .one) ∧
    (491 ≤ d.toNat → d.toNat ≤ 509 → classify s d = .miss) ∧
    (510 ≤ d.toNat → d.toNat ≤ 690 → classify s d = .sync) ∧
    (691 ≤ d.toNat → classify s d = .miss) ∧
    ¬ (inband s d s.syncUs = true ∧ inband s d s.zeroUs = true) ∧
    ¬ (inband s d s.syncUs = true ∧ inband s d s.oneUs = true) ∧
    ¬ (inband s d s.zeroUs = true ∧ inband s d s.oneUs = true) ∧
    cfgOverlap s = false

/-- With the reset centres and TOL_US = 150 the bands are sync [450, 750], zero [50, 350] and one [250,
550]; CFG_OVERLAP reads 1; 300 is ZERO, 500 is SYNC and 400 is ONE; and every duration has a class under
every configuration, the overlap being reported and not refused. (R155.) -/
def Obligations.OverlappingBandsKeepTheOrder : Prop :=
  (∀ (s : State) (d : Word), s.syncUs = 600 → s.zeroUs = 200 → s.oneUs = 400 → s.tolUs = 150 →
    (inband s d s.syncUs = true ↔ 450 ≤ d.toNat ∧ d.toNat ≤ 750) ∧
    (inband s d s.zeroUs = true ↔ 50 ≤ d.toNat ∧ d.toNat ≤ 350) ∧
    (inband s d s.oneUs = true ↔ 250 ≤ d.toNat ∧ d.toNat ≤ 550) ∧
    cfgOverlap s = true ∧ (∃ w, exec .rdStatus s = .next { s with rdata := some w } ∧ w.getLsbD 2 = true) ∧
    classify s 300 = .zero ∧ classify s 500 = .sync ∧ classify s 400 = .one) ∧
  (∀ (v : Word) (s : State), exec (.wrTolUs v) s = .next { s with tolUs := v.extractLsb 15 0 }) ∧
  (∀ (s : State) (d : Word), s.demEn = true → s.srcSel = true → ∃ t, exec (.wrPulseIn d) s = .next t)

/-- CFG_OVERLAP is 1 when two of the closed intervals around SYNC_US, ZERO_US and ONE_US share a point, and
0 otherwise; it depends on the current configuration only; with the reset configuration the intervals
are [510, 690], [110, 290] and [310, 490] and it is 0. (R40.) -/
def Obligations.ConfigOverlapIsACommonPoint : Prop :=
  (∀ s : State, cfgOverlap s = true ↔
    (∃ x : Int, InBand s s.syncUs x ∧ InBand s s.zeroUs x) ∨
    (∃ x : Int, InBand s s.syncUs x ∧ InBand s s.oneUs x) ∨
    (∃ x : Int, InBand s s.zeroUs x ∧ InBand s s.oneUs x)) ∧
  (∀ s s' : State, s'.syncUs = s.syncUs → s'.zeroUs = s.zeroUs → s'.oneUs = s.oneUs →
    s'.tolUs = s.tolUs → cfgOverlap s' = cfgOverlap s) ∧
  (∀ p, cfgOverlap (State.resetWith p) = false ∧
    ∀ x : Int, (InBand (State.resetWith p) 600 x ↔ 510 ≤ x ∧ x ≤ 690) ∧
      (InBand (State.resetWith p) 200 x ↔ 110 ≤ x ∧ x ≤ 290) ∧
      (InBand (State.resetWith p) 400 x ↔ 310 ≤ x ∧ x ≤ 490))

/-- With no bits: a pulse of either level in the sync band sets sync_cnt to min(sync_cnt + 1, 255) and
changes nothing else; a NONE pulse, a space in a data band, or a data mark with sync_cnt <= SYNC_MIN
sets it to 0, with the event TIMING_MISS where it was above 0, and changes nothing else. With bits
collected, a space changes nothing. (42_bit_assembler.md R170, R171, R172, R178; 60_exceptions.md R291.) -/
def Obligations.SyncCountingAndSpaces : Prop :=
  ∀ (p : Level) (d : Word) (s : State),
    (s.nbits = 0 → classify s d = .sync → ∃ c : BitVec 8,
      basPulse p d s = { s with syncCnt := c } ∧ c.toNat = min (s.syncCnt.toNat + 1) 255) ∧
    (s.nbits = 0 → classify s d ≠ .sync →
      (p = .space ∨ classify s d = .miss ∨ s.syncCnt.toNat ≤ s.syncMin.toNat) →
      basPulse p d s = { s with
        syncCnt := 0, events := s.events ++ (if s.syncCnt = 0 then [] else [.timingMiss]) }) ∧
    (s.nbits ≠ 0 → basPulse .space d s = s)

/-- A mark in the zero or one band, with sync_cnt > SYNC_MIN if no bit is held yet, appends 0 or 1: if nbits
+ 1 is no multiple of 8, nbits goes up by 1, bit number nbits in wire order takes the bit (over a 0),
every other bit of the frame keeps its value, and nothing else changes. (42_bit_assembler.md R173, R174,
R179; 20_memory.md R64.) -/
def Obligations.DataMarkAppendsOneBit : Prop :=
  ∀ (v : Bool) (d : Word) (s : State),
    classify s d = (if v then .one else .zero) → (s.nbits = 0 → s.syncMin.toNat < s.syncCnt.toNat) →
    s.nbits.toNat < 80 → (s.nbits.toNat + 1) % 8 ≠ 0 →
    ∃ t, basPulse .mark d s = t ∧ t = { s with nbits := t.nbits, b := t.b } ∧
      t.nbits.toNat = s.nbits.toNat + 1 ∧
      ∀ k, k < 80 → frameBit t k = (frameBit s k || (v && decide (k = s.nbits.toNat)))

/-- When the appended bit completes byte n, the packet row that decodes the n complete bytes runs on the
state with the bit stored (with no such row only the event NO_MATCH, log entry 8, follows); then, if a
decoder accepts those bytes, the frame is reset; if none does and n = 10, the frame is reset with the
event MAX_RESET; otherwise the frame grows on. (42_bit_assembler.md R174, R175, R176, R177, R183;
44_decoders.md R201; 60_exceptions.md R291.) -/
def Obligations.ByteBoundaryTriesTheDecoders : Prop :=
  ∀ (v : Bool) (d : Word) (s : State),
    classify s d = (if v then .one else .zero) → s.nbits ≠ 0 → s.nbits.toNat < 80 →
    (s.nbits.toNat + 1) % 8 = 0 →
    ∃ u x, u = { s with nbits := u.nbits, b := u.b } ∧ u.nbits.toNat = s.nbits.toNat + 1 ∧
      (∀ k, k < 80 → frameBit u k = (frameBit s k || (v && decide (k = s.nbits.toNat)))) ∧
      (∀ i, decode (.frame (framePrefix u (u.nbits.toNat / 8))) = .ok i → exec i u = .next x) ∧
      (∀ r, decode (.frame (framePrefix u (u.nbits.toNat / 8))) = .error r →
        x = { u with events := u.events ++ [.noMatch] }) ∧
      basPulse .mark d s =
        (if acceptable (framePrefix u (u.nbits.toNat / 8)) then cleared x
         else if u.nbits.toNat = 80 then cleared { x with events := x.events ++ [.maxReset] }
         else x)

/-- In a state with the invariant that collects bits, a mark in the sync band or in no band resets the
frame, with the event TIMING_MISS, and changes nothing else: the SILENT handover to the decoders accepts
nothing and counts nothing. (42_bit_assembler.md R180, R181, R183; 44_decoders.md R201; 60_exceptions.md
R291.) -/
def Obligations.AbortIsAFrameReset : Prop :=
  ∀ (d : Word) (s : State), MachineInv s → s.nbits ≠ 0 → (classify s d = .sync ∨ classify s d = .miss) →
    basPulse .mark d s = { cleared s with events := s.events ++ [.timingMiss] } ∧
    decodeStep (s.nbits.toNat / 8) .silent s = (false, s)

/-- For every pulse, with fewer than 80 bits held: from code 0 or 1, a sync pulse leads to 1, a data mark
with sync_cnt > SYNC_MIN leads to 2, and every other pulse leads to 0; from code 2 a space stays at 2, a
mark in the sync band or no band leads to 0, and a data mark leads to 0 if a frame is accepted in the
step or the bit was the 80th, and else stays at 2. No pulse leads to code 3. (42_bit_assembler.md R182,
R184; 10_state.md R35.) -/
def Obligations.TransitionTable : Prop :=
  ∀ (p : Level) (d : Word) (s : State), s.nbits.toNat < 80 →
    (s.nbits = 0 → classify s d = .sync → fsmCode (basPulse p d s) = 1) ∧
    (s.nbits = 0 → p = .mark → (classify s d = .zero ∨ classify s d = .one) →
      s.syncMin.toNat < s.syncCnt.toNat → fsmCode (basPulse p d s) = 2) ∧
    (s.nbits = 0 → classify s d ≠ .sync →
      (p = .space ∨ classify s d = .miss ∨ s.syncCnt.toNat ≤ s.syncMin.toNat) →
      fsmCode (basPulse p d s) = 0) ∧
    (s.nbits ≠ 0 → p = .space → fsmCode (basPulse p d s) = 2) ∧
    (s.nbits ≠ 0 → p = .mark → (classify s d = .sync ∨ classify s d = .miss) →
      fsmCode (basPulse p d s) = 0) ∧
    (s.nbits ≠ 0 → p = .mark → (classify s d = .zero ∨ classify s d = .one) →
      ((basPulse p d s).frameOkCount = s.frameOkCount + 1 ∨ s.nbits.toNat = 79 →
        fsmCode (basPulse p d s) = 0) ∧
      ((basPulse p d s).frameOkCount = s.frameOkCount → s.nbits.toNat ≠ 79 →
        fsmCode (basPulse p d s) = 2)) ∧
    fsmCode (basPulse p d s) ≠ 3

/-- Take a state that collects bits (0 < nbits < 80), with DEM_EN = 1 and SRC_SEL = 1, whose next 80 - nbits
stimuli are PULSE_IN writes of marks in the zero or one band, none of duration 0. Then after at least
one and at most 80 - nbits steps the machine is in a next state with no bits and no sync count: no such
sequence keeps the assembler collecting. (42_bit_assembler.md R185, R176, R177.) -/
def Obligations.DataMarksEndAFrame : Prop :=
  ∀ (s : State) (ds : List Word) (rest : List StimWord),
    s.nbits ≠ 0 → s.nbits.toNat < 80 → s.demEn = true → s.srcSel = true → DataMarks s ds →
    ds.length + s.nbits.toNat = 80 → s.stim = ds.map pulseInWord ++ rest →
    ∃ k t, 0 < k ∧ k ≤ ds.length ∧ Sys2Proof.core.run k s = .next t ∧ t.nbits = 0 ∧ t.syncCnt = 0

/-- For every state and every number n of complete bytes: if the first n bytes of the frame decode to a
packet row, DECODE_STEP(n, COUNT) leaves what exec of that row leaves and answers ACCEPTED exactly where
a decoder accepts them; if they decode to none, it answers NONE and leaves only the event NO_MATCH (log
entry 8), and in SILENT mode nothing. For n of 1 to 6 they decode to none. (44_decoders.md R201, R202,
R244; 30_encoding.md R91, R103; 60_exceptions.md R291.) -/
def Obligations.DecodeStepRunsThePacketRow : Prop :=
  ∀ (n : Nat) (s : State),
    (∀ i, decode (.frame (framePrefix s n)) = .ok i → exec i s = .next (decodeStep n .count s).2) ∧
    (decodeStep n .count s).1 = acceptable (framePrefix s n) ∧
    (∀ r, decode (.frame (framePrefix s n)) = .error r →
      decodeStep n .count s = (false, { s with events := s.events ++ [.noMatch] }) ∧
      decodeStep n .silent s = (false, s)) ∧
    (n ≤ 6 → decode (.frame (framePrefix s n)) = .error .noMatch)

/-- For every length, the formats of that length have pairwise disjoint code sets: at length 8 Rain has
0x30, Notos 0x20 and Iris 0x31 and 0x38, at lengths 7, 9 and 10 there is one format each. So at most one
format passes length and discriminator on any bytes; trying the six formats in any other order gives the
same result; and DECODE_STEP counts at most one failure. (R244.) -/
def Obligations.DiscriminatorsAreDisjoint : Prop :=
  (∀ (n : Nat) (f g : Format), (fmtRom f).len = n → (fmtRom g).len = n → f ≠ g →
    ∀ c, c ∈ (fmtRom f).codes → c ∉ (fmtRom g).codes) ∧
  (∀ f, (fmtRom f).len = 8 ↔ f = .rain ∨ f = .notos ∨ f = .iris) ∧
  ((fmtRom .rain).codes = [0x30] ∧ (fmtRom .notos).codes = [0x20] ∧ (fmtRom .iris).codes = [0x31, 0x38]) ∧
  (∀ f, ((fmtRom f).len = 7 ↔ f = .tower) ∧ ((fmtRom f).len = 9 ↔ f = .lightning) ∧
    ((fmtRom f).len = 10 ↔ f = .atlas)) ∧
  (∀ (bs : List Byte) (f g : Format), formatMatches f bs = true → formatMatches g bs = true → f = g) ∧
  (∀ (bs : List Byte) (m : Mode) (fs : List Format) (s : State), fs.Perm priority →
    tryFormats bs m fs s = tryFormats bs m priority s) ∧
  (∀ (n : Nat) (s t : State) (a : Bool), decodeStep n .count s = (a, t) →
    (t.csumErrCount = s.csumErrCount ∧ t.parErrCount = s.parErrCount) ∨
    (a = false ∧ t.csumErrCount = s.csumErrCount + 1 ∧ t.parErrCount = s.parErrCount) ∨
    (a = false ∧ t.csumErrCount = s.csumErrCount ∧ t.parErrCount = s.parErrCount + 1))

/-- For bytes that end in c, CHECKSUM holds exactly where the sum of the others mod 256 is c. A byte passes
parity exactly where it has an even number of ones. The parity check of each format is that over bytes
2..5 (Tower), 2..6 (Rain), 2..7 (Lightning), 2..8 (Atlas), 3..6 (Notos, whose byte 2 is exempt), and
none (Iris). (43_validator.md R190, R191, R193; 44_decoders.md R200.) -/
def Obligations.ChecksAreSumAndEvenParity : Prop :=
  (∀ (bs : List Byte) (c : Byte),
    checksum (bs ++ [c]) = true ↔ (bs.map BitVec.toNat).sum % 256 = c.toNat) ∧
  (∀ v : Byte, byteParity v = true ↔ ((List.range 8).filter (fun k => v.getLsbD k)).length % 2 = 0) ∧
  (∀ bs : List Byte,
    (formatParity .tower bs = true ↔ EvenParity bs 2 5) ∧
    (formatParity .rain bs = true ↔ EvenParity bs 2 6) ∧
    (formatParity .lightning bs = true ↔ EvenParity bs 2 7) ∧
    (formatParity .atlas bs = true ↔ EvenParity bs 2 8) ∧
    (formatParity .notos bs = true ↔ EvenParity bs 3 6) ∧
    formatParity .iris bs = true)

/-- Bytes followed by their sum pass CHECKSUM, and changing any one byte of a passing frame, the last one
too, to another value makes it fail. Flipping any one bit of a byte that passes parity makes it fail; in
a range, such a flip in an exempt byte changes nothing. Two flips in one byte pass parity, and a change
of one byte by d with the opposite change of another passes the checksum. (R194.) -/
def Obligations.WhatTheChecksDetect : Prop :=
  (∀ bs : List Byte, checksum (bs ++ [byteSum bs]) = true) ∧
  (∀ (bs : List Byte) (j : Nat) (x : Byte), checksum bs = true → j < bs.length → x ≠ bs.getD j 0 →
    checksum (bs.set j x) = false) ∧
  (∀ (v : Byte) (k : Nat), k < 8 → byteParity v = true → byteParity (v ^^^ (1#8 <<< k)) = false) ∧
  (∀ (bs : List Byte) (lo hi j k : Nat) (ex : List Nat), parity bs lo hi ex = true → lo ≤ j → j ≤ hi →
    j < bs.length → k < 8 →
    parity (bs.set j (bs.getD j 0 ^^^ (1#8 <<< k))) lo hi ex = decide (j ∈ ex)) ∧
  (∀ (v : Byte) (k l : Nat), k < 8 → l < 8 → k ≠ l → byteParity v = true →
    byteParity (v ^^^ (1#8 <<< k) ^^^ (1#8 <<< l)) = true) ∧
  (∀ (bs : List Byte) (i j : Nat) (d : Byte), checksum bs = true → i ≠ j → i + 1 < bs.length →
    j + 1 < bs.length → checksum ((bs.set i (bs.getD i 0 + d)).set j (bs.getD j 0 - d)) = true)

/-- For every packet row, on bytes whose checksum fails, whatever their parity: CSUM_ERR_COUNT goes up by 1
with the event CSUM_FAIL, and nothing else changes. (44_decoders.md R201, R204 to R215; 43_validator.md
R192; 60_exceptions.md R291.) -/
def Obligations.ChecksumFailureCountsOnce : Prop :=
  ∀ (bs : List Byte) (s : State), checksum bs = false →
    ∀ i ∈ [Instr.pktTower bs, .pktRain bs, .pktLtng bs, .pktAtlas05 bs, .pktAtlas06 bs, .pktAtlas07 bs,
        .pktAtlas25 bs, .pktAtlas26 bs, .pktAtlas27 bs, .pktNotos bs, .pktIris31 bs, .pktIris38 bs],
      exec i s = .next { s with
        csumErrCount := s.csumErrCount + 1, events := s.events ++ [.csumFail] }

/-- For the ten packet rows whose format has a parity range, on bytes whose checksum holds and of which some
byte of the range (byte 2 not among them for Notos) has odd parity: PAR_ERR_COUNT goes up by 1 with the
event PARITY_FAIL, however many bytes fail, and nothing else changes. (44_decoders.md R200, R201, R204
to R213; 43_validator.md R191, R192, R193.) -/
def Obligations.ParityFailureCountsOnce : Prop :=
  ∀ (bs : List Byte) (s : State) (i : Instr) (lo hi : Nat), checksum bs = true → ¬ EvenParity bs lo hi →
    (i, lo, hi) ∈ [(Instr.pktTower bs, 2, 5), (.pktRain bs, 2, 6), (.pktLtng bs, 2, 7),
        (.pktAtlas05 bs, 2, 8), (.pktAtlas06 bs, 2, 8), (.pktAtlas07 bs, 2, 8), (.pktAtlas25 bs, 2, 8),
        (.pktAtlas26 bs, 2, 8), (.pktAtlas27 bs, 2, 8), (.pktNotos bs, 3, 6)] →
    exec i s = .next { s with parErrCount := s.parErrCount + 1, events := s.events ++ [.parityFail] }

/-- On a 7-byte frame of type 0x04 with a right checksum and even parity in bytes 2..5, the row accepts: the
latch and the record port take the six words of the record (address b0[5:0]:b1, humidity b3[6:0],
temperature b4[4:0]:b5[6:0], PRESENT TEMP and HUM, letter from CH_LUT_A), RES_SEQ and FRAME_OK_COUNT go
up by 1, RES_NEW is 1, and nothing else changes. (44_decoders.md R201, R203, R204; 30_encoding.md R85,
R110 to R112.) -/
def Obligations.TowerFrameIsAccepted : Prop :=
  ∀ (bs : List Byte) (s : State), packetShape 7 0x04 bs = true → checksum bs = true → EvenParity bs 2 5 →
    ∃ r : RecWords, exec (.pktTower bs) s = .next (accepted s r) ∧
      r.w0.toNat = headerNum 1 0x04 (letterA (byteNum bs 0 / 64)) 7 bs ∧
      r.w1.toNat = byteNum bs 0 % 64 * 256 + byteNum bs 1 + 2 ^ 14 * (byteNum bs 3 % 128) + 2 ^ 21 * 3 ∧
      r.w2.toNat = byteNum bs 4 % 32 * 128 + byteNum bs 5 % 128 ∧
      r.w3 = 0 ∧ r.w4 = 0 ∧ r.w5 = 0

/-- On an 8-byte frame of type 0x30 with a right checksum and even parity in bytes 2..6, the row accepts
with the record: address b0[5:0]:b1, tip count b4[6:0]:b5[6:0]:b6[6:0], PRESENT RAIN, and the letter
that CH_LUT_B has for the channel code. (44_decoders.md R201, R203, R205, R241; 30_encoding.md R86, R110
to R112.) -/
def Obligations.RainFrameIsAccepted : Prop :=
  ∀ (bs : List Byte) (s : State), packetShape 8 0x30 bs = true → checksum bs = true → EvenParity bs 2 6 →
    ∃ r : RecWords, exec (.pktRain bs) s = .next (accepted s r) ∧
      r.w0.toNat = headerNum 2 0x30 (byteNum s.params.chLutB.toList (byteNum bs 0 / 64)) 8 bs ∧
      r.w1.toNat = byteNum bs 0 % 64 * 256 + byteNum bs 1 + 2 ^ 21 * 4 ∧
      r.w2 = 0 ∧
      r.w3.toNat = byteNum bs 4 % 128 * 2 ^ 14 + byteNum bs 5 % 128 * 2 ^ 7 + byteNum bs 6 % 128 ∧
      r.w4 = 0 ∧ r.w5 = 0

/-- On a 9-byte frame of type 0x2F with a right checksum and even parity in bytes 2..7, the row accepts with
the record: the Tower fields, strikes b6[6:0]:b7[6], RFI b7[5], distance index b7[4:0], and the distance
that LDIST_ROM has for it, an entry of 2..40; PRESENT TEMP, HUM and LTNG. (44_decoders.md R201, R203,
R206, R216, R243; 30_encoding.md R87, R110 to R112.) -/
def Obligations.LightningFrameIsAccepted : Prop :=
  ∀ (bs : List Byte) (s : State), packetShape 9 0x2F bs = true → checksum bs = true → EvenParity bs 2 7 →
    ∃ (r : RecWords) (km : Nat), exec (.pktLtng bs) s = .next (accepted s r) ∧
      2 ≤ km ∧ km ≤ 40 ∧ (∃ e : Fin 39, s.params.ldistPred[byteNum bs 7 % 32]? = some e ∧ km = e.val + 2) ∧
      r.w0.toNat = headerNum 3 0x2F (letterA (byteNum bs 0 / 64)) 9 bs ∧
      r.w1.toNat = byteNum bs 0 % 64 * 256 + byteNum bs 1 + 2 ^ 14 * (byteNum bs 3 % 128) + 2 ^ 21 * 67
        + 2 ^ 28 * (byteNum bs 7 / 32 % 2) ∧
      r.w2.toNat = byteNum bs 4 % 32 * 128 + byteNum bs 5 % 128
        + 2 ^ 20 * (byteNum bs 6 % 128 * 2 + byteNum bs 7 / 64 % 2) ∧
      r.w3.toNat = 2 ^ 21 * (byteNum bs 7 % 32) + 2 ^ 26 * km ∧
      r.w4 = 0 ∧ r.w5 = 0

/-- On a 10-byte frame of type 0x05 or 0x25 with a right checksum and even parity in bytes 2..8, its row
accepts with the record: address b0[1:0]:b1, wind b3[6:0]:b4[6], temperature b4[4:0]:b5[6:0], humidity
b6[6:0], PRESENT WSPD, TEMP and HUM; and for 0x25 the lightning fields of bytes 7 and 8, with LTNG in
PRESENT. (44_decoders.md R201, R203, R207, R210, R216; 30_encoding.md R88, R110 to R112.) -/
def Obligations.AtlasThFrameIsAccepted : Prop :=
  ∀ (bs : List Byte) (s : State) (i : Instr) (m : BitVec 6),
    (i, m) ∈ [(Instr.pktAtlas05 bs, (0x05 : BitVec 6)), (.pktAtlas25 bs, 0x25)] →
    packetShape 10 m bs = true → checksum bs = true → EvenParity bs 2 8 →
    ∃ (r : RecWords) (km : Nat), exec i s = .next (accepted s r) ∧
      (∃ e : Fin 39, s.params.ldistPred[byteNum bs 8 % 32]? = some e ∧ km = e.val + 2) ∧
      r.w0.toNat = headerNum 4 m.toNat (letterA (byteNum bs 0 / 64)) 10 bs ∧
      r.w1.toNat = byteNum bs 0 % 4 * 256 + byteNum bs 1 + 2 ^ 14 * (byteNum bs 6 % 128) + 2 ^ 21 * 11
        + ltngFlag m.toNat * (2 ^ 27 + 2 ^ 28 * (byteNum bs 8 / 32 % 2)) ∧
      r.w2.toNat = byteNum bs 4 % 32 * 128 + byteNum bs 5 % 128 + 2 ^ 12 * (byteNum bs 3 % 128 * 2 + byteNum bs 4 / 64 % 2)
        + ltngFlag m.toNat * 2 ^ 20 * (byteNum bs 7 % 128 * 2 + byteNum bs 8 / 64 % 2) ∧
      r.w3.toNat = ltngFlag m.toNat * (2 ^ 21 * (byteNum bs 8 % 32) + 2 ^ 26 * km) ∧
      r.w4 = 0 ∧ r.w5 = 0

/-- On a 10-byte frame of type 0x06 or 0x26 with a right checksum and even parity in bytes 2..8, its row
accepts with the record: address, wind, direction b4[4:0]:b5[6:2] and ten times it, rain count
b5[1:0]:b6[6:0], PRESENT WSPD, WDIR and RAIN; and for 0x26 the lightning fields of bytes 7 and 8, with
LTNG in PRESENT. (44_decoders.md R201, R203, R208, R211, R216; 30_encoding.md R88, R110 to R112.) -/
def Obligations.AtlasWrFrameIsAccepted : Prop :=
  ∀ (bs : List Byte) (s : State) (i : Instr) (m : BitVec 6),
    (i, m) ∈ [(Instr.pktAtlas06 bs, (0x06 : BitVec 6)), (.pktAtlas26 bs, 0x26)] →
    packetShape 10 m bs = true → checksum bs = true → EvenParity bs 2 8 →
    ∃ (r : RecWords) (km : Nat), exec i s = .next (accepted s r) ∧
      (∃ e : Fin 39, s.params.ldistPred[byteNum bs 8 % 32]? = some e ∧ km = e.val + 2) ∧
      r.w0.toNat = headerNum 4 m.toNat (letterA (byteNum bs 0 / 64)) 10 bs ∧
      r.w1.toNat = byteNum bs 0 % 4 * 256 + byteNum bs 1 + 2 ^ 21 * 28
        + ltngFlag m.toNat * (2 ^ 27 + 2 ^ 28 * (byteNum bs 8 / 32 % 2)) ∧
      r.w2.toNat = 2 ^ 12 * (byteNum bs 3 % 128 * 2 + byteNum bs 4 / 64 % 2)
        + ltngFlag m.toNat * 2 ^ 20 * (byteNum bs 7 % 128 * 2 + byteNum bs 8 / 64 % 2) ∧
      r.w3.toNat = byteNum bs 5 % 4 * 128 + byteNum bs 6 % 128 + ltngFlag m.toNat * (2 ^ 21 * (byteNum bs 8 % 32) + 2 ^ 26 * km) ∧
      r.w4.toNat = (byteNum bs 4 % 32 * 32 + byteNum bs 5 / 4 % 32)
        + 2 ^ 10 * ((byteNum bs 4 % 32 * 32 + byteNum bs 5 / 4 % 32) * 10) ∧
      r.w5 = 0

/-- On a 10-byte frame of type 0x07 or 0x27 with a right checksum and even parity in bytes 2..8, its row
accepts with the record: address, wind, UV b4[3:0], light b5[6:0]:b6[6:0], PRESENT WSPD and UV with LUX;
and for 0x27 the lightning fields of bytes 7 and 8, with LTNG in PRESENT. (44_decoders.md R201, R203,
R209, R212, R216; 30_encoding.md R88, R110 to R112.) -/
def Obligations.AtlasUlFrameIsAccepted : Prop :=
  ∀ (bs : List Byte) (s : State) (i : Instr) (m : BitVec 6),
    (i, m) ∈ [(Instr.pktAtlas07 bs, (0x07 : BitVec 6)), (.pktAtlas27 bs, 0x27)] →
    packetShape 10 m bs = true → checksum bs = true → EvenParity bs 2 8 →
    ∃ (r : RecWords) (km : Nat), exec i s = .next (accepted s r) ∧
      (∃ e : Fin 39, s.params.ldistPred[byteNum bs 8 % 32]? = some e ∧ km = e.val + 2) ∧
      r.w0.toNat = headerNum 4 m.toNat (letterA (byteNum bs 0 / 64)) 10 bs ∧
      r.w1.toNat = byteNum bs 0 % 4 * 256 + byteNum bs 1 + 2 ^ 21 * 40
        + ltngFlag m.toNat * (2 ^ 27 + 2 ^ 28 * (byteNum bs 8 / 32 % 2)) ∧
      r.w2.toNat = 2 ^ 12 * (byteNum bs 3 % 128 * 2 + byteNum bs 4 / 64 % 2)
        + ltngFlag m.toNat * 2 ^ 20 * (byteNum bs 7 % 128 * 2 + byteNum bs 8 / 64 % 2) ∧
      r.w3.toNat = ltngFlag m.toNat * (2 ^ 21 * (byteNum bs 8 % 32) + 2 ^ 26 * km) ∧
      r.w4.toNat = 2 ^ 24 * (byteNum bs 4 % 16) ∧
      r.w5.toNat = byteNum bs 5 % 128 * 128 + byteNum bs 6 % 128

/-- On an 8-byte frame of type 0x20 with a right checksum and even parity in bytes 3..6, the row accepts
with the record: address b0[5:0]:b1, humidity b3[6:0], temperature b4[4:0]:b5[6:0], wind b6[6:0],
PRESENT TEMP, HUM and WSPD. Byte 2 may have either parity. (44_decoders.md R201, R203, R213;
30_encoding.md R89, R110 to R112; 43_validator.md R193.) -/
def Obligations.NotosFrameIsAccepted : Prop :=
  ∀ (bs : List Byte) (s : State), packetShape 8 0x20 bs = true → checksum bs = true → EvenParity bs 3 6 →
    ∃ r : RecWords, exec (.pktNotos bs) s = .next (accepted s r) ∧
      r.w0.toNat = headerNum 5 0x20 (letterA (byteNum bs 0 / 64)) 8 bs ∧
      r.w1.toNat = byteNum bs 0 % 64 * 256 + byteNum bs 1 + 2 ^ 14 * (byteNum bs 3 % 128) + 2 ^ 21 * 11 ∧
      r.w2.toNat = byteNum bs 4 % 32 * 128 + byteNum bs 5 % 128 + 2 ^ 12 * (byteNum bs 6 % 128) ∧
      r.w3 = 0 ∧ r.w4 = 0 ∧ r.w5 = 0

/-- On an 8-byte frame with a right checksum: type 0x31 gives address b0[3:0]:b1, wind b3[4:0]:b4[6:4],
direction index b4[3:0] with its entry of the compass table in tenths of a degree, rain b5[6:0]:b6[6:0];
type 0x38 gives the same address and wind, temperature b4[3:0]:b5[6:0] and humidity b6[6:0]. No parity
is checked. (44_decoders.md R201, R203, R214, R215, R242; 30_encoding.md R90, R110 to R112.) -/
def Obligations.IrisFramesAreAccepted : Prop :=
  ∀ (bs : List Byte) (s : State), checksum bs = true →
    (packetShape 8 0x31 bs = true → ∃ r : RecWords, exec (.pktIris31 bs) s = .next (accepted s r) ∧
      r.w0.toNat = headerNum 6 0x31 (letterA (byteNum bs 0 / 64)) 8 bs ∧
      r.w1.toNat = byteNum bs 0 % 16 * 256 + byteNum bs 1 + 2 ^ 21 * 28 ∧
      r.w2.toNat = 2 ^ 12 * (byteNum bs 3 % 32 * 8 + byteNum bs 4 / 16 % 8) ∧
      r.w3.toNat = byteNum bs 5 % 128 * 128 + byteNum bs 6 % 128 ∧
      r.w4.toNat = byteNum bs 4 % 16 + 2 ^ 10 * ([3150, 2475, 2925, 2700, 3375, 2250, 0, 2025, 675, 1350,
        900, 1125, 450, 1575, 225, 1800].getD (byteNum bs 4 % 16) 0) ∧
      r.w5 = 0) ∧
    (packetShape 8 0x38 bs = true → ∃ r : RecWords, exec (.pktIris38 bs) s = .next (accepted s r) ∧
      r.w0.toNat = headerNum 6 0x38 (letterA (byteNum bs 0 / 64)) 8 bs ∧
      r.w1.toNat = byteNum bs 0 % 16 * 256 + byteNum bs 1 + 2 ^ 14 * (byteNum bs 6 % 128) + 2 ^ 21 * 11 ∧
      r.w2.toNat = byteNum bs 4 % 16 * 128 + byteNum bs 5 % 128
        + 2 ^ 12 * (byteNum bs 3 % 32 * 8 + byteNum bs 4 / 16 % 8) ∧
      r.w3 = 0 ∧ r.w4 = 0 ∧ r.w5 = 0)

/-- For every value of the OPEN parameters and every stimuli to come, the state right after hardware reset
satisfies the invariant, and so does State.reset. (70_reset_and_hazards.md R310, R311; 10_state.md R22
to R37.) -/
def Obligations.InvariantHoldsAtReset : Prop :=
  (∀ s, Initial s → MachineInv s) ∧ MachineInv State.reset

/-- Take any state in which the ring is canonical and lists existing slots only, both cursors are slots,
fewer than 80 bits are held, bits are held only with a sync count, the bits not yet received are 0, and
no complete prefix of the frame is one that a decoder accepts. If a step answers a next state, whatever
the stimulus, all of this holds there. (10_state.md R24, R25, R33; 20_memory.md R61, R67;
42_bit_assembler.md R173, R174, R176, R181, R183.) -/
def Obligations.EveryStepKeepsTheInvariant : Prop :=
  ∀ s t : State, MachineInv s → step s = .next t → MachineInv t

/-- In every step that takes a stimulus other than a reset: either no record is on the port, the event
FRAME_OK is not among the step's events, and RES_SEQ is as before; or the port carries the six words now
in the latch, FRAME_OK is among the events, RES_SEQ and FRAME_OK_COUNT are one higher and RES_NEW is 1.
The latch itself changes only in such a step, or to 0 by a soft reset. (45_host_interface.md R276;
44_decoders.md R201; 10_state.md R37, R44.) -/
def Obligations.RecordPortCarriesAcceptsOnly : Prop :=
  ∀ (s t : State) (w : StimWord) (rest : List StimWord), s.stim = w :: rest →
    decode (.stimulus w) ≠ .ok .hwReset → step s = .next t →
    (t.recPort = none ∧ .frameOk ∉ t.events ∧ t.resSeq = s.resSeq ∧
      (t.res = s.res ∨ ∃ v, decode (.stimulus w) = .ok (.wrCtrl v) ∧ t.res = ⟨0, 0, 0, 0, 0, 0⟩)) ∨
    (t.recPort = some t.res ∧ .frameOk ∈ t.events ∧ t.resSeq = s.resSeq + 1 ∧
      t.frameOkCount = s.frameOkCount + 1 ∧ t.resNew = true)

/-- For every operation but HW_RESET, WR CTRL, WR OVF_COUNT and WR STATUS: OVF_COUNT and OVF are unchanged,
or the operation is an EDGE, no episode was on, one is now, OVF is 1 and OVF_COUNT is one higher. And
ovf_active changes only by an EDGE: from 0 to 1 with the ring full, from 1 to 0 with room.
(40_edge_capture.md R135; 10_state.md R29, R30; 41_pulse_classifier.md R150.) -/
def Obligations.OverflowCountsEpisodesOnce : Prop :=
  ∀ (i : Instr) (s t : State), exec i s = .next t → i ≠ .hwReset → (∀ v, i ≠ .wrCtrl v) →
    (∀ v, i ≠ .wrOvfCount v) → (∀ v, i ≠ .wrStatus v) →
    ((t.ovfCount = s.ovfCount ∧ t.ovf = s.ovf) ∨
      (∃ lvl, i = .edge lvl ∧ s.ovfActive = false ∧ t.ovfActive = true ∧ t.ovf = true ∧
        t.ovfCount = s.ovfCount + 1)) ∧
    (t.ovfActive ≠ s.ovfActive → ∃ lvl, i = .edge lvl ∧ s.capEn = true ∧
      (t.ovfActive = true ↔ (s.wr.toNat + 1) % s.params.ringSize = s.rd.toNat))

/-- For every operation that answers a next state, resets (HW_RESET, WR CTRL with bit 31) aside: RING, wr,
filt and ovf_active change only by EDGE; rd and prev_ts change only by CONSUME; and sync_cnt, nbits and
the frame change only by CONSUME and by a PULSE_IN write. The OPEN parameters never change.
(20_memory.md R68, R60; 45_host_interface.md R266, R277; 41_pulse_classifier.md R150, R151.) -/
def Obligations.SingleProducerSingleConsumer : Prop :=
  ∀ (i : Instr) (s t : State), exec i s = .next t →
    t.params = s.params ∧
    (i ≠ .hwReset → (∀ v : Word, v.getLsbD 31 = true → i ≠ .wrCtrl v) →
      ((∀ lvl, i ≠ .edge lvl) → t.ring = s.ring ∧ t.wr = s.wr ∧ t.filt = s.filt ∧
        t.ovfActive = s.ovfActive) ∧
      (i ≠ .consume → t.rd = s.rd ∧ t.prevTs = s.prevTs) ∧
      (i ≠ .consume → (∀ v, i ≠ .wrPulseIn v) →
        t.syncCnt = s.syncCnt ∧ t.nbits = s.nbits ∧ t.b = s.b))

/-- On states of the invariant, with the unconsumed timestamps read oldest first: there are at most
RING_SIZE - 1 of them, none exactly when ring_empty, RING_SIZE - 1 exactly when ring_full. EDGE leaves
them, or appends TS where the ring was not full, or, with filt = 1, replaces the last one by TS. CONSUME
removes the first, which becomes prev_ts. Every other operation but the two resets leaves them.
(10_state.md R26; 40_edge_capture.md R131, R133, R135, R138; 41_pulse_classifier.md R150; 20_memory.md
R68, R69.) -/
def Obligations.RingIsAQueue : Prop :=
  ∀ s : State, MachineInv s →
    (pending s).length + 1 ≤ s.params.ringSize ∧
    ((pending s).length = 0 ↔ ringEmpty s = true) ∧
    ((pending s).length + 1 = s.params.ringSize ↔ ringFull s = true) ∧
    (∀ (lvl : Bool) (t : State), exec (.edge lvl) s = .next t →
      pending t = pending s ∨
      (ringFull s = false ∧ pending t = pending s ++ [s.ts]) ∨
      (s.filt = true ∧ ∃ front last, pending s = front ++ [last] ∧ pending t = front ++ [s.ts])) ∧
    (∀ t : State, exec .consume s = .next t → pending s = t.prevTs :: pending t) ∧
    (∀ (i : Instr) (t : State), exec i s = .next t → (∀ lvl, i ≠ .edge lvl) → i ≠ .consume →
      i ≠ .hwReset → (∀ v : Word, v.getLsbD 31 = true → i ≠ .wrCtrl v) → pending t = pending s)

/-- Take a state in which CONSUME is enabled and yields level p and duration d with 1 <= d <= 2^31 - 1, and
the same state with SRC_SEL = 1 and any other rd and prev_ts. Writing +d (mark) or -d (space) to
PULSE_IN there leaves the state that CONSUME leaves, but for SRC_SEL, rd and prev_ts: every counter, the
latch, the record and the bit assembler agree. (41_pulse_classifier.md R157, R150, R151.) -/
def Obligations.PulseSourcesAreEquivalent : Prop :=
  ∀ (s t : State) (rd : BitVec 10) (prev v : Word), exec .consume s = .next t →
    1 ≤ (slot s (s.rd.toNat + 1) - s.prevTs).toNat →
    (slot s (s.rd.toNat + 1) - s.prevTs).toNat ≤ 2 ^ 31 - 1 →
    v = (if (s.rd.toNat + 1) % s.params.ringSize % 2 = 0 then slot s (s.rd.toNat + 1) - s.prevTs
      else -(slot s (s.rd.toNat + 1) - s.prevTs)) →
    exec (.wrPulseIn v) { s with srcSel := true, rd := rd, prevTs := prev } =
      .next { t with srcSel := true, rd := rd, prevTs := prev }

/-- For every value put into TS, CONSUME and a PULSE_IN write then do exactly what they do without the
change, and TS keeps that value. (40_edge_capture.md R142; 41_pulse_classifier.md R150.) -/
def Obligations.DemodulatorIgnoresTheTimer : Prop :=
  ∀ (s t : State) (x : Word) (i : Instr), (i = .consume ∨ ∃ v, i = .wrPulseIn v) →
    exec i s = .next t → exec i { s with ts := x } = .next { t with ts := x }

/-- On states of the invariant, an operation other than HW_RESET adds to the events: for EDGE at most one
RING_OVERFLOW; for CONSUME or PULSE_IN nothing, or TIMING_MISS, or one of CSUM_FAIL, PARITY_FAIL and
NO_MATCH, each possibly followed by MAX_RESET, or FRAME_OK; for TICK, reads and other writes nothing;
for a packet row one of CSUM_FAIL, PARITY_FAIL and FRAME_OK. The list of events, and when NO_MATCH is
listed, are the model's choice (log entry 8). (60_exceptions.md R291, R292; 42_bit_assembler.md R184;
44_decoders.md R244.) -/
def Obligations.EventsWithinOneStep : Prop :=
  ∀ (i : Instr) (s t : State), MachineInv s → exec i s = .next t → i ≠ .hwReset →
    ∃ es : List Event, t.events = s.events ++ es ∧
      ((∃ lvl, i = .edge lvl) → es ∈ [[], [.ringOverflow]]) ∧
      (i = .consume ∨ (∃ v, i = .wrPulseIn v) → es ∈ [[], [.timingMiss], [.noMatch], [.noMatch, .maxReset],
        [.csumFail], [.csumFail, .maxReset], [.parityFail], [.parityFail, .maxReset], [.frameOk]]) ∧
      (70 ≤ rowNumber i → es ∈ [[.csumFail], [.parityFail], [.frameOk]]) ∧
      ((∀ lvl, i ≠ .edge lvl) → i ≠ .consume → (∀ v, i ≠ .wrPulseIn v) → rowNumber i < 70 → es = [])

/-- irq is 1 exactly when IE_RES and RES_NEW are 1 or IE_OVF and OVF are 1. If an operation takes it from 0
to 1, then a frame was accepted (RES_NEW rose), an overflow episode started (OVF rose), or the operation
is WR CTRL. WR STATUS, 3 and a soft reset leave it 0. (60_exceptions.md R294; 10_state.md R44;
45_host_interface.md R262, R270.) -/
def Obligations.InterruptFollowsTheFlags : Prop :=
  (∀ s : State, irq s = true ↔ (s.ieRes = true ∧ s.resNew = true) ∨ (s.ieOvf = true ∧ s.ovf = true)) ∧
  (∀ (i : Instr) (s t : State), exec i s = .next t → irq s = false → irq t = true →
    (s.resNew = false ∧ t.resNew = true) ∨ (s.ovf = false ∧ t.ovf = true) ∨ ∃ v, i = .wrCtrl v) ∧
  (∀ s t : State, exec (.wrStatus 3) s = .next t → irq t = false) ∧
  (∀ (v : Word) (s t : State), v.getLsbD 31 = true → exec (.wrCtrl v) s = .next t → irq t = false)

/-- CH_LUT_A is 'C', 'E', 'B', 'A'; the entries of WDIR_ROM are those of the table and are a permutation of
k times 225; every distance is in 2..40; the priority order is Tower, Rain, Notos, Iris, Lightning,
Atlas. (44_decoders.md R240, R242, R243, R202; 10_state.md R41.) -/
def Obligations.ConstantTables : Prop :=
  (∀ p, channelChar p .lutA 0 = 0x43 ∧ channelChar p .lutA 1 = 0x45 ∧ channelChar p .lutA 2 = 0x42 ∧
    channelChar p .lutA 3 = 0x41) ∧
  wdirRom.toList.map BitVec.toNat = [3150, 2475, 2925, 2700, 3375, 2250, 0, 2025, 675, 1350, 900, 1125,
    450, 1575, 225, 1800] ∧
  (wdirRom.toList.map BitVec.toNat).Perm ((List.range 16).map (225 * ·)) ∧
  (∀ (p : Params) (j : BitVec 5), 2 ≤ (p.distKm j).toNat ∧ (p.distKm j).toNat ≤ 40) ∧
  priority = [.tower, .rain, .notos, .iris, .lightning, .atlas]
end

