-- ==== Sys2Proof/Laws/State.lean ====
section
/-! SUPPORT. One lemma per field per named update of State, each true by rfl. -/

namespace Sys2Proof.Machine

@[simp] theorem note_params (s : State) (e : Event) : (note s e).params = s.params := rfl
@[simp] theorem note_ts (s : State) (e : Event) : (note s e).ts = s.ts := rfl
@[simp] theorem note_ring (s : State) (e : Event) : (note s e).ring = s.ring := rfl
@[simp] theorem note_wr (s : State) (e : Event) : (note s e).wr = s.wr := rfl
@[simp] theorem note_rd (s : State) (e : Event) : (note s e).rd = s.rd := rfl
@[simp] theorem note_filt (s : State) (e : Event) : (note s e).filt = s.filt := rfl
@[simp] theorem note_ovfActive (s : State) (e : Event) : (note s e).ovfActive = s.ovfActive := rfl
@[simp] theorem note_ovf (s : State) (e : Event) : (note s e).ovf = s.ovf := rfl
@[simp] theorem note_ovfCount (s : State) (e : Event) : (note s e).ovfCount = s.ovfCount := rfl
@[simp] theorem note_prevTs (s : State) (e : Event) : (note s e).prevTs = s.prevTs := rfl
@[simp] theorem note_syncCnt (s : State) (e : Event) : (note s e).syncCnt = s.syncCnt := rfl
@[simp] theorem note_nbits (s : State) (e : Event) : (note s e).nbits = s.nbits := rfl
@[simp] theorem note_b (s : State) (e : Event) : (note s e).b = s.b := rfl
@[simp] theorem note_csumErrCount (s : State) (e : Event) : (note s e).csumErrCount = s.csumErrCount := rfl
@[simp] theorem note_parErrCount (s : State) (e : Event) : (note s e).parErrCount = s.parErrCount := rfl
@[simp] theorem note_frameOkCount (s : State) (e : Event) : (note s e).frameOkCount = s.frameOkCount := rfl
@[simp] theorem note_res (s : State) (e : Event) : (note s e).res = s.res := rfl
@[simp] theorem note_resSeq (s : State) (e : Event) : (note s e).resSeq = s.resSeq := rfl
@[simp] theorem note_resNew (s : State) (e : Event) : (note s e).resNew = s.resNew := rfl
@[simp] theorem note_capEn (s : State) (e : Event) : (note s e).capEn = s.capEn := rfl
@[simp] theorem note_demEn (s : State) (e : Event) : (note s e).demEn = s.demEn := rfl
@[simp] theorem note_srcSel (s : State) (e : Event) : (note s e).srcSel = s.srcSel := rfl
@[simp] theorem note_ieRes (s : State) (e : Event) : (note s e).ieRes = s.ieRes := rfl
@[simp] theorem note_ieOvf (s : State) (e : Event) : (note s e).ieOvf = s.ieOvf := rfl
@[simp] theorem note_filterUs (s : State) (e : Event) : (note s e).filterUs = s.filterUs := rfl
@[simp] theorem note_syncUs (s : State) (e : Event) : (note s e).syncUs = s.syncUs := rfl
@[simp] theorem note_zeroUs (s : State) (e : Event) : (note s e).zeroUs = s.zeroUs := rfl
@[simp] theorem note_oneUs (s : State) (e : Event) : (note s e).oneUs = s.oneUs := rfl
@[simp] theorem note_tolUs (s : State) (e : Event) : (note s e).tolUs = s.tolUs := rfl
@[simp] theorem note_syncMin (s : State) (e : Event) : (note s e).syncMin = s.syncMin := rfl
@[simp] theorem note_recPort (s : State) (e : Event) : (note s e).recPort = s.recPort := rfl
@[simp] theorem note_rdata (s : State) (e : Event) : (note s e).rdata = s.rdata := rfl
@[simp] theorem note_events (s : State) (e : Event) : (note s e).events = s.events ++ [e] := rfl
@[simp] theorem note_stim (s : State) (e : Event) : (note s e).stim = s.stim := rfl

@[simp] theorem ringWrite_params (s : State) (c : BitVec 10) (v : Word) : (ringWrite s c v).params = s.params := rfl
@[simp] theorem ringWrite_ts (s : State) (c : BitVec 10) (v : Word) : (ringWrite s c v).ts = s.ts := rfl
@[simp] theorem ringWrite_ring (s : State) (c : BitVec 10) (v : Word) : (ringWrite s c v).ring = Memory.write s.ring (slotOf s c) v := rfl
@[simp] theorem ringWrite_wr (s : State) (c : BitVec 10) (v : Word) : (ringWrite s c v).wr = s.wr := rfl
@[simp] theorem ringWrite_rd (s : State) (c : BitVec 10) (v : Word) : (ringWrite s c v).rd = s.rd := rfl
@[simp] theorem ringWrite_filt (s : State) (c : BitVec 10) (v : Word) : (ringWrite s c v).filt = s.filt := rfl
@[simp] theorem ringWrite_ovfActive (s : State) (c : BitVec 10) (v : Word) : (ringWrite s c v).ovfActive = s.ovfActive := rfl
@[simp] theorem ringWrite_ovf (s : State) (c : BitVec 10) (v : Word) : (ringWrite s c v).ovf = s.ovf := rfl
@[simp] theorem ringWrite_ovfCount (s : State) (c : BitVec 10) (v : Word) : (ringWrite s c v).ovfCount = s.ovfCount := rfl
@[simp] theorem ringWrite_prevTs (s : State) (c : BitVec 10) (v : Word) : (ringWrite s c v).prevTs = s.prevTs := rfl
@[simp] theorem ringWrite_syncCnt (s : State) (c : BitVec 10) (v : Word) : (ringWrite s c v).syncCnt = s.syncCnt := rfl
@[simp] theorem ringWrite_nbits (s : State) (c : BitVec 10) (v : Word) : (ringWrite s c v).nbits = s.nbits := rfl
@[simp] theorem ringWrite_b (s : State) (c : BitVec 10) (v : Word) : (ringWrite s c v).b = s.b := rfl
@[simp] theorem ringWrite_csumErrCount (s : State) (c : BitVec 10) (v : Word) : (ringWrite s c v).csumErrCount = s.csumErrCount := rfl
@[simp] theorem ringWrite_parErrCount (s : State) (c : BitVec 10) (v : Word) : (ringWrite s c v).parErrCount = s.parErrCount := rfl
@[simp] theorem ringWrite_frameOkCount (s : State) (c : BitVec 10) (v : Word) : (ringWrite s c v).frameOkCount = s.frameOkCount := rfl
@[simp] theorem ringWrite_res (s : State) (c : BitVec 10) (v : Word) : (ringWrite s c v).res = s.res := rfl
@[simp] theorem ringWrite_resSeq (s : State) (c : BitVec 10) (v : Word) : (ringWrite s c v).resSeq = s.resSeq := rfl
@[simp] theorem ringWrite_resNew (s : State) (c : BitVec 10) (v : Word) : (ringWrite s c v).resNew = s.resNew := rfl
@[simp] theorem ringWrite_capEn (s : State) (c : BitVec 10) (v : Word) : (ringWrite s c v).capEn = s.capEn := rfl
@[simp] theorem ringWrite_demEn (s : State) (c : BitVec 10) (v : Word) : (ringWrite s c v).demEn = s.demEn := rfl
@[simp] theorem ringWrite_srcSel (s : State) (c : BitVec 10) (v : Word) : (ringWrite s c v).srcSel = s.srcSel := rfl
@[simp] theorem ringWrite_ieRes (s : State) (c : BitVec 10) (v : Word) : (ringWrite s c v).ieRes = s.ieRes := rfl
@[simp] theorem ringWrite_ieOvf (s : State) (c : BitVec 10) (v : Word) : (ringWrite s c v).ieOvf = s.ieOvf := rfl
@[simp] theorem ringWrite_filterUs (s : State) (c : BitVec 10) (v : Word) : (ringWrite s c v).filterUs = s.filterUs := rfl
@[simp] theorem ringWrite_syncUs (s : State) (c : BitVec 10) (v : Word) : (ringWrite s c v).syncUs = s.syncUs := rfl
@[simp] theorem ringWrite_zeroUs (s : State) (c : BitVec 10) (v : Word) : (ringWrite s c v).zeroUs = s.zeroUs := rfl
@[simp] theorem ringWrite_oneUs (s : State) (c : BitVec 10) (v : Word) : (ringWrite s c v).oneUs = s.oneUs := rfl
@[simp] theorem ringWrite_tolUs (s : State) (c : BitVec 10) (v : Word) : (ringWrite s c v).tolUs = s.tolUs := rfl
@[simp] theorem ringWrite_syncMin (s : State) (c : BitVec 10) (v : Word) : (ringWrite s c v).syncMin = s.syncMin := rfl
@[simp] theorem ringWrite_recPort (s : State) (c : BitVec 10) (v : Word) : (ringWrite s c v).recPort = s.recPort := rfl
@[simp] theorem ringWrite_rdata (s : State) (c : BitVec 10) (v : Word) : (ringWrite s c v).rdata = s.rdata := rfl
@[simp] theorem ringWrite_events (s : State) (c : BitVec 10) (v : Word) : (ringWrite s c v).events = s.events := rfl
@[simp] theorem ringWrite_stim (s : State) (c : BitVec 10) (v : Word) : (ringWrite s c v).stim = s.stim := rfl

@[simp] theorem normalWrite_params (s : State) (now : Word) : (normalWrite s now).params = s.params := rfl
@[simp] theorem normalWrite_ts (s : State) (now : Word) : (normalWrite s now).ts = s.ts := rfl
@[simp] theorem normalWrite_ring (s : State) (now : Word) : (normalWrite s now).ring = Memory.write s.ring (slotOf s (nextSlot s s.wr)) now := rfl
@[simp] theorem normalWrite_wr (s : State) (now : Word) : (normalWrite s now).wr = nextSlot s s.wr := rfl
@[simp] theorem normalWrite_rd (s : State) (now : Word) : (normalWrite s now).rd = s.rd := rfl
@[simp] theorem normalWrite_filt (s : State) (now : Word) : (normalWrite s now).filt = s.filt := rfl
@[simp] theorem normalWrite_ovfActive (s : State) (now : Word) : (normalWrite s now).ovfActive = s.ovfActive := rfl
@[simp] theorem normalWrite_ovf (s : State) (now : Word) : (normalWrite s now).ovf = s.ovf := rfl
@[simp] theorem normalWrite_ovfCount (s : State) (now : Word) : (normalWrite s now).ovfCount = s.ovfCount := rfl
@[simp] theorem normalWrite_prevTs (s : State) (now : Word) : (normalWrite s now).prevTs = s.prevTs := rfl
@[simp] theorem normalWrite_syncCnt (s : State) (now : Word) : (normalWrite s now).syncCnt = s.syncCnt := rfl
@[simp] theorem normalWrite_nbits (s : State) (now : Word) : (normalWrite s now).nbits = s.nbits := rfl
@[simp] theorem normalWrite_b (s : State) (now : Word) : (normalWrite s now).b = s.b := rfl
@[simp] theorem normalWrite_csumErrCount (s : State) (now : Word) : (normalWrite s now).csumErrCount = s.csumErrCount := rfl
@[simp] theorem normalWrite_parErrCount (s : State) (now : Word) : (normalWrite s now).parErrCount = s.parErrCount := rfl
@[simp] theorem normalWrite_frameOkCount (s : State) (now : Word) : (normalWrite s now).frameOkCount = s.frameOkCount := rfl
@[simp] theorem normalWrite_res (s : State) (now : Word) : (normalWrite s now).res = s.res := rfl
@[simp] theorem normalWrite_resSeq (s : State) (now : Word) : (normalWrite s now).resSeq = s.resSeq := rfl
@[simp] theorem normalWrite_resNew (s : State) (now : Word) : (normalWrite s now).resNew = s.resNew := rfl
@[simp] theorem normalWrite_capEn (s : State) (now : Word) : (normalWrite s now).capEn = s.capEn := rfl
@[simp] theorem normalWrite_demEn (s : State) (now : Word) : (normalWrite s now).demEn = s.demEn := rfl
@[simp] theorem normalWrite_srcSel (s : State) (now : Word) : (normalWrite s now).srcSel = s.srcSel := rfl
@[simp] theorem normalWrite_ieRes (s : State) (now : Word) : (normalWrite s now).ieRes = s.ieRes := rfl
@[simp] theorem normalWrite_ieOvf (s : State) (now : Word) : (normalWrite s now).ieOvf = s.ieOvf := rfl
@[simp] theorem normalWrite_filterUs (s : State) (now : Word) : (normalWrite s now).filterUs = s.filterUs := rfl
@[simp] theorem normalWrite_syncUs (s : State) (now : Word) : (normalWrite s now).syncUs = s.syncUs := rfl
@[simp] theorem normalWrite_zeroUs (s : State) (now : Word) : (normalWrite s now).zeroUs = s.zeroUs := rfl
@[simp] theorem normalWrite_oneUs (s : State) (now : Word) : (normalWrite s now).oneUs = s.oneUs := rfl
@[simp] theorem normalWrite_tolUs (s : State) (now : Word) : (normalWrite s now).tolUs = s.tolUs := rfl
@[simp] theorem normalWrite_syncMin (s : State) (now : Word) : (normalWrite s now).syncMin = s.syncMin := rfl
@[simp] theorem normalWrite_recPort (s : State) (now : Word) : (normalWrite s now).recPort = s.recPort := rfl
@[simp] theorem normalWrite_rdata (s : State) (now : Word) : (normalWrite s now).rdata = s.rdata := rfl
@[simp] theorem normalWrite_events (s : State) (now : Word) : (normalWrite s now).events = s.events := rfl
@[simp] theorem normalWrite_stim (s : State) (now : Word) : (normalWrite s now).stim = s.stim := rfl

@[simp] theorem startEpisode_params (s : State) : (startEpisode s).params = s.params := rfl
@[simp] theorem startEpisode_ts (s : State) : (startEpisode s).ts = s.ts := rfl
@[simp] theorem startEpisode_ring (s : State) : (startEpisode s).ring = s.ring := rfl
@[simp] theorem startEpisode_wr (s : State) : (startEpisode s).wr = s.wr := rfl
@[simp] theorem startEpisode_rd (s : State) : (startEpisode s).rd = s.rd := rfl
@[simp] theorem startEpisode_filt (s : State) : (startEpisode s).filt = s.filt := rfl
@[simp] theorem startEpisode_ovfActive (s : State) : (startEpisode s).ovfActive = true := rfl
@[simp] theorem startEpisode_ovf (s : State) : (startEpisode s).ovf = true := rfl
@[simp] theorem startEpisode_ovfCount (s : State) : (startEpisode s).ovfCount = s.ovfCount + 1 := rfl
@[simp] theorem startEpisode_prevTs (s : State) : (startEpisode s).prevTs = s.prevTs := rfl
@[simp] theorem startEpisode_syncCnt (s : State) : (startEpisode s).syncCnt = s.syncCnt := rfl
@[simp] theorem startEpisode_nbits (s : State) : (startEpisode s).nbits = s.nbits := rfl
@[simp] theorem startEpisode_b (s : State) : (startEpisode s).b = s.b := rfl
@[simp] theorem startEpisode_csumErrCount (s : State) : (startEpisode s).csumErrCount = s.csumErrCount := rfl
@[simp] theorem startEpisode_parErrCount (s : State) : (startEpisode s).parErrCount = s.parErrCount := rfl
@[simp] theorem startEpisode_frameOkCount (s : State) : (startEpisode s).frameOkCount = s.frameOkCount := rfl
@[simp] theorem startEpisode_res (s : State) : (startEpisode s).res = s.res := rfl
@[simp] theorem startEpisode_resSeq (s : State) : (startEpisode s).resSeq = s.resSeq := rfl
@[simp] theorem startEpisode_resNew (s : State) : (startEpisode s).resNew = s.resNew := rfl
@[simp] theorem startEpisode_capEn (s : State) : (startEpisode s).capEn = s.capEn := rfl
@[simp] theorem startEpisode_demEn (s : State) : (startEpisode s).demEn = s.demEn := rfl
@[simp] theorem startEpisode_srcSel (s : State) : (startEpisode s).srcSel = s.srcSel := rfl
@[simp] theorem startEpisode_ieRes (s : State) : (startEpisode s).ieRes = s.ieRes := rfl
@[simp] theorem startEpisode_ieOvf (s : State) : (startEpisode s).ieOvf = s.ieOvf := rfl
@[simp] theorem startEpisode_filterUs (s : State) : (startEpisode s).filterUs = s.filterUs := rfl
@[simp] theorem startEpisode_syncUs (s : State) : (startEpisode s).syncUs = s.syncUs := rfl
@[simp] theorem startEpisode_zeroUs (s : State) : (startEpisode s).zeroUs = s.zeroUs := rfl
@[simp] theorem startEpisode_oneUs (s : State) : (startEpisode s).oneUs = s.oneUs := rfl
@[simp] theorem startEpisode_tolUs (s : State) : (startEpisode s).tolUs = s.tolUs := rfl
@[simp] theorem startEpisode_syncMin (s : State) : (startEpisode s).syncMin = s.syncMin := rfl
@[simp] theorem startEpisode_recPort (s : State) : (startEpisode s).recPort = s.recPort := rfl
@[simp] theorem startEpisode_rdata (s : State) : (startEpisode s).rdata = s.rdata := rfl
@[simp] theorem startEpisode_events (s : State) : (startEpisode s).events = s.events ++ [.ringOverflow] := rfl
@[simp] theorem startEpisode_stim (s : State) : (startEpisode s).stim = s.stim := rfl

@[simp] theorem reply_params (s : State) (w : Word) : (reply s w).params = s.params := rfl
@[simp] theorem reply_ts (s : State) (w : Word) : (reply s w).ts = s.ts := rfl
@[simp] theorem reply_ring (s : State) (w : Word) : (reply s w).ring = s.ring := rfl
@[simp] theorem reply_wr (s : State) (w : Word) : (reply s w).wr = s.wr := rfl
@[simp] theorem reply_rd (s : State) (w : Word) : (reply s w).rd = s.rd := rfl
@[simp] theorem reply_filt (s : State) (w : Word) : (reply s w).filt = s.filt := rfl
@[simp] theorem reply_ovfActive (s : State) (w : Word) : (reply s w).ovfActive = s.ovfActive := rfl
@[simp] theorem reply_ovf (s : State) (w : Word) : (reply s w).ovf = s.ovf := rfl
@[simp] theorem reply_ovfCount (s : State) (w : Word) : (reply s w).ovfCount = s.ovfCount := rfl
@[simp] theorem reply_prevTs (s : State) (w : Word) : (reply s w).prevTs = s.prevTs := rfl
@[simp] theorem reply_syncCnt (s : State) (w : Word) : (reply s w).syncCnt = s.syncCnt := rfl
@[simp] theorem reply_nbits (s : State) (w : Word) : (reply s w).nbits = s.nbits := rfl
@[simp] theorem reply_b (s : State) (w : Word) : (reply s w).b = s.b := rfl
@[simp] theorem reply_csumErrCount (s : State) (w : Word) : (reply s w).csumErrCount = s.csumErrCount := rfl
@[simp] theorem reply_parErrCount (s : State) (w : Word) : (reply s w).parErrCount = s.parErrCount := rfl
@[simp] theorem reply_frameOkCount (s : State) (w : Word) : (reply s w).frameOkCount = s.frameOkCount := rfl
@[simp] theorem reply_res (s : State) (w : Word) : (reply s w).res = s.res := rfl
@[simp] theorem reply_resSeq (s : State) (w : Word) : (reply s w).resSeq = s.resSeq := rfl
@[simp] theorem reply_resNew (s : State) (w : Word) : (reply s w).resNew = s.resNew := rfl
@[simp] theorem reply_capEn (s : State) (w : Word) : (reply s w).capEn = s.capEn := rfl
@[simp] theorem reply_demEn (s : State) (w : Word) : (reply s w).demEn = s.demEn := rfl
@[simp] theorem reply_srcSel (s : State) (w : Word) : (reply s w).srcSel = s.srcSel := rfl
@[simp] theorem reply_ieRes (s : State) (w : Word) : (reply s w).ieRes = s.ieRes := rfl
@[simp] theorem reply_ieOvf (s : State) (w : Word) : (reply s w).ieOvf = s.ieOvf := rfl
@[simp] theorem reply_filterUs (s : State) (w : Word) : (reply s w).filterUs = s.filterUs := rfl
@[simp] theorem reply_syncUs (s : State) (w : Word) : (reply s w).syncUs = s.syncUs := rfl
@[simp] theorem reply_zeroUs (s : State) (w : Word) : (reply s w).zeroUs = s.zeroUs := rfl
@[simp] theorem reply_oneUs (s : State) (w : Word) : (reply s w).oneUs = s.oneUs := rfl
@[simp] theorem reply_tolUs (s : State) (w : Word) : (reply s w).tolUs = s.tolUs := rfl
@[simp] theorem reply_syncMin (s : State) (w : Word) : (reply s w).syncMin = s.syncMin := rfl
@[simp] theorem reply_recPort (s : State) (w : Word) : (reply s w).recPort = s.recPort := rfl
@[simp] theorem reply_rdata (s : State) (w : Word) : (reply s w).rdata = some w := rfl
@[simp] theorem reply_events (s : State) (w : Word) : (reply s w).events = s.events := rfl
@[simp] theorem reply_stim (s : State) (w : Word) : (reply s w).stim = s.stim := rfl

@[simp] theorem frameReset_params (s : State) : (frameReset s).params = s.params := rfl
@[simp] theorem frameReset_ts (s : State) : (frameReset s).ts = s.ts := rfl
@[simp] theorem frameReset_ring (s : State) : (frameReset s).ring = s.ring := rfl
@[simp] theorem frameReset_wr (s : State) : (frameReset s).wr = s.wr := rfl
@[simp] theorem frameReset_rd (s : State) : (frameReset s).rd = s.rd := rfl
@[simp] theorem frameReset_filt (s : State) : (frameReset s).filt = s.filt := rfl
@[simp] theorem frameReset_ovfActive (s : State) : (frameReset s).ovfActive = s.ovfActive := rfl
@[simp] theorem frameReset_ovf (s : State) : (frameReset s).ovf = s.ovf := rfl
@[simp] theorem frameReset_ovfCount (s : State) : (frameReset s).ovfCount = s.ovfCount := rfl
@[simp] theorem frameReset_prevTs (s : State) : (frameReset s).prevTs = s.prevTs := rfl
@[simp] theorem frameReset_syncCnt (s : State) : (frameReset s).syncCnt = 0 := rfl
@[simp] theorem frameReset_nbits (s : State) : (frameReset s).nbits = 0 := rfl
@[simp] theorem frameReset_b (s : State) : (frameReset s).b = Vector.replicate 10 0 := rfl
@[simp] theorem frameReset_csumErrCount (s : State) : (frameReset s).csumErrCount = s.csumErrCount := rfl
@[simp] theorem frameReset_parErrCount (s : State) : (frameReset s).parErrCount = s.parErrCount := rfl
@[simp] theorem frameReset_frameOkCount (s : State) : (frameReset s).frameOkCount = s.frameOkCount := rfl
@[simp] theorem frameReset_res (s : State) : (frameReset s).res = s.res := rfl
@[simp] theorem frameReset_resSeq (s : State) : (frameReset s).resSeq = s.resSeq := rfl
@[simp] theorem frameReset_resNew (s : State) : (frameReset s).resNew = s.resNew := rfl
@[simp] theorem frameReset_capEn (s : State) : (frameReset s).capEn = s.capEn := rfl
@[simp] theorem frameReset_demEn (s : State) : (frameReset s).demEn = s.demEn := rfl
@[simp] theorem frameReset_srcSel (s : State) : (frameReset s).srcSel = s.srcSel := rfl
@[simp] theorem frameReset_ieRes (s : State) : (frameReset s).ieRes = s.ieRes := rfl
@[simp] theorem frameReset_ieOvf (s : State) : (frameReset s).ieOvf = s.ieOvf := rfl
@[simp] theorem frameReset_filterUs (s : State) : (frameReset s).filterUs = s.filterUs := rfl
@[simp] theorem frameReset_syncUs (s : State) : (frameReset s).syncUs = s.syncUs := rfl
@[simp] theorem frameReset_zeroUs (s : State) : (frameReset s).zeroUs = s.zeroUs := rfl
@[simp] theorem frameReset_oneUs (s : State) : (frameReset s).oneUs = s.oneUs := rfl
@[simp] theorem frameReset_tolUs (s : State) : (frameReset s).tolUs = s.tolUs := rfl
@[simp] theorem frameReset_syncMin (s : State) : (frameReset s).syncMin = s.syncMin := rfl
@[simp] theorem frameReset_recPort (s : State) : (frameReset s).recPort = s.recPort := rfl
@[simp] theorem frameReset_rdata (s : State) : (frameReset s).rdata = s.rdata := rfl
@[simp] theorem frameReset_events (s : State) : (frameReset s).events = s.events := rfl
@[simp] theorem frameReset_stim (s : State) : (frameReset s).stim = s.stim := rfl

@[simp] theorem countCsumFail_params (s : State) : (countCsumFail s).params = s.params := rfl
@[simp] theorem countCsumFail_ts (s : State) : (countCsumFail s).ts = s.ts := rfl
@[simp] theorem countCsumFail_ring (s : State) : (countCsumFail s).ring = s.ring := rfl
@[simp] theorem countCsumFail_wr (s : State) : (countCsumFail s).wr = s.wr := rfl
@[simp] theorem countCsumFail_rd (s : State) : (countCsumFail s).rd = s.rd := rfl
@[simp] theorem countCsumFail_filt (s : State) : (countCsumFail s).filt = s.filt := rfl
@[simp] theorem countCsumFail_ovfActive (s : State) : (countCsumFail s).ovfActive = s.ovfActive := rfl
@[simp] theorem countCsumFail_ovf (s : State) : (countCsumFail s).ovf = s.ovf := rfl
@[simp] theorem countCsumFail_ovfCount (s : State) : (countCsumFail s).ovfCount = s.ovfCount := rfl
@[simp] theorem countCsumFail_prevTs (s : State) : (countCsumFail s).prevTs = s.prevTs := rfl
@[simp] theorem countCsumFail_syncCnt (s : State) : (countCsumFail s).syncCnt = s.syncCnt := rfl
@[simp] theorem countCsumFail_nbits (s : State) : (countCsumFail s).nbits = s.nbits := rfl
@[simp] theorem countCsumFail_b (s : State) : (countCsumFail s).b = s.b := rfl
@[simp] theorem countCsumFail_csumErrCount (s : State) : (countCsumFail s).csumErrCount = s.csumErrCount + 1 := rfl
@[simp] theorem countCsumFail_parErrCount (s : State) : (countCsumFail s).parErrCount = s.parErrCount := rfl
@[simp] theorem countCsumFail_frameOkCount (s : State) : (countCsumFail s).frameOkCount = s.frameOkCount := rfl
@[simp] theorem countCsumFail_res (s : State) : (countCsumFail s).res = s.res := rfl
@[simp] theorem countCsumFail_resSeq (s : State) : (countCsumFail s).resSeq = s.resSeq := rfl
@[simp] theorem countCsumFail_resNew (s : State) : (countCsumFail s).resNew = s.resNew := rfl
@[simp] theorem countCsumFail_capEn (s : State) : (countCsumFail s).capEn = s.capEn := rfl
@[simp] theorem countCsumFail_demEn (s : State) : (countCsumFail s).demEn = s.demEn := rfl
@[simp] theorem countCsumFail_srcSel (s : State) : (countCsumFail s).srcSel = s.srcSel := rfl
@[simp] theorem countCsumFail_ieRes (s : State) : (countCsumFail s).ieRes = s.ieRes := rfl
@[simp] theorem countCsumFail_ieOvf (s : State) : (countCsumFail s).ieOvf = s.ieOvf := rfl
@[simp] theorem countCsumFail_filterUs (s : State) : (countCsumFail s).filterUs = s.filterUs := rfl
@[simp] theorem countCsumFail_syncUs (s : State) : (countCsumFail s).syncUs = s.syncUs := rfl
@[simp] theorem countCsumFail_zeroUs (s : State) : (countCsumFail s).zeroUs = s.zeroUs := rfl
@[simp] theorem countCsumFail_oneUs (s : State) : (countCsumFail s).oneUs = s.oneUs := rfl
@[simp] theorem countCsumFail_tolUs (s : State) : (countCsumFail s).tolUs = s.tolUs := rfl
@[simp] theorem countCsumFail_syncMin (s : State) : (countCsumFail s).syncMin = s.syncMin := rfl
@[simp] theorem countCsumFail_recPort (s : State) : (countCsumFail s).recPort = s.recPort := rfl
@[simp] theorem countCsumFail_rdata (s : State) : (countCsumFail s).rdata = s.rdata := rfl
@[simp] theorem countCsumFail_events (s : State) : (countCsumFail s).events = s.events ++ [.csumFail] := rfl
@[simp] theorem countCsumFail_stim (s : State) : (countCsumFail s).stim = s.stim := rfl

@[simp] theorem countParityFail_params (s : State) : (countParityFail s).params = s.params := rfl
@[simp] theorem countParityFail_ts (s : State) : (countParityFail s).ts = s.ts := rfl
@[simp] theorem countParityFail_ring (s : State) : (countParityFail s).ring = s.ring := rfl
@[simp] theorem countParityFail_wr (s : State) : (countParityFail s).wr = s.wr := rfl
@[simp] theorem countParityFail_rd (s : State) : (countParityFail s).rd = s.rd := rfl
@[simp] theorem countParityFail_filt (s : State) : (countParityFail s).filt = s.filt := rfl
@[simp] theorem countParityFail_ovfActive (s : State) : (countParityFail s).ovfActive = s.ovfActive := rfl
@[simp] theorem countParityFail_ovf (s : State) : (countParityFail s).ovf = s.ovf := rfl
@[simp] theorem countParityFail_ovfCount (s : State) : (countParityFail s).ovfCount = s.ovfCount := rfl
@[simp] theorem countParityFail_prevTs (s : State) : (countParityFail s).prevTs = s.prevTs := rfl
@[simp] theorem countParityFail_syncCnt (s : State) : (countParityFail s).syncCnt = s.syncCnt := rfl
@[simp] theorem countParityFail_nbits (s : State) : (countParityFail s).nbits = s.nbits := rfl
@[simp] theorem countParityFail_b (s : State) : (countParityFail s).b = s.b := rfl
@[simp] theorem countParityFail_csumErrCount (s : State) : (countParityFail s).csumErrCount = s.csumErrCount := rfl
@[simp] theorem countParityFail_parErrCount (s : State) : (countParityFail s).parErrCount = s.parErrCount + 1 := rfl
@[simp] theorem countParityFail_frameOkCount (s : State) : (countParityFail s).frameOkCount = s.frameOkCount := rfl
@[simp] theorem countParityFail_res (s : State) : (countParityFail s).res = s.res := rfl
@[simp] theorem countParityFail_resSeq (s : State) : (countParityFail s).resSeq = s.resSeq := rfl
@[simp] theorem countParityFail_resNew (s : State) : (countParityFail s).resNew = s.resNew := rfl
@[simp] theorem countParityFail_capEn (s : State) : (countParityFail s).capEn = s.capEn := rfl
@[simp] theorem countParityFail_demEn (s : State) : (countParityFail s).demEn = s.demEn := rfl
@[simp] theorem countParityFail_srcSel (s : State) : (countParityFail s).srcSel = s.srcSel := rfl
@[simp] theorem countParityFail_ieRes (s : State) : (countParityFail s).ieRes = s.ieRes := rfl
@[simp] theorem countParityFail_ieOvf (s : State) : (countParityFail s).ieOvf = s.ieOvf := rfl
@[simp] theorem countParityFail_filterUs (s : State) : (countParityFail s).filterUs = s.filterUs := rfl
@[simp] theorem countParityFail_syncUs (s : State) : (countParityFail s).syncUs = s.syncUs := rfl
@[simp] theorem countParityFail_zeroUs (s : State) : (countParityFail s).zeroUs = s.zeroUs := rfl
@[simp] theorem countParityFail_oneUs (s : State) : (countParityFail s).oneUs = s.oneUs := rfl
@[simp] theorem countParityFail_tolUs (s : State) : (countParityFail s).tolUs = s.tolUs := rfl
@[simp] theorem countParityFail_syncMin (s : State) : (countParityFail s).syncMin = s.syncMin := rfl
@[simp] theorem countParityFail_recPort (s : State) : (countParityFail s).recPort = s.recPort := rfl
@[simp] theorem countParityFail_rdata (s : State) : (countParityFail s).rdata = s.rdata := rfl
@[simp] theorem countParityFail_events (s : State) : (countParityFail s).events = s.events ++ [.parityFail] := rfl
@[simp] theorem countParityFail_stim (s : State) : (countParityFail s).stim = s.stim := rfl

@[simp] theorem acceptRec_params (s : State) (r : Rec) : (acceptRec s r).params = s.params := rfl
@[simp] theorem acceptRec_ts (s : State) (r : Rec) : (acceptRec s r).ts = s.ts := rfl
@[simp] theorem acceptRec_ring (s : State) (r : Rec) : (acceptRec s r).ring = s.ring := rfl
@[simp] theorem acceptRec_wr (s : State) (r : Rec) : (acceptRec s r).wr = s.wr := rfl
@[simp] theorem acceptRec_rd (s : State) (r : Rec) : (acceptRec s r).rd = s.rd := rfl
@[simp] theorem acceptRec_filt (s : State) (r : Rec) : (acceptRec s r).filt = s.filt := rfl
@[simp] theorem acceptRec_ovfActive (s : State) (r : Rec) : (acceptRec s r).ovfActive = s.ovfActive := rfl
@[simp] theorem acceptRec_ovf (s : State) (r : Rec) : (acceptRec s r).ovf = s.ovf := rfl
@[simp] theorem acceptRec_ovfCount (s : State) (r : Rec) : (acceptRec s r).ovfCount = s.ovfCount := rfl
@[simp] theorem acceptRec_prevTs (s : State) (r : Rec) : (acceptRec s r).prevTs = s.prevTs := rfl
@[simp] theorem acceptRec_syncCnt (s : State) (r : Rec) : (acceptRec s r).syncCnt = s.syncCnt := rfl
@[simp] theorem acceptRec_nbits (s : State) (r : Rec) : (acceptRec s r).nbits = s.nbits := rfl
@[simp] theorem acceptRec_b (s : State) (r : Rec) : (acceptRec s r).b = s.b := rfl
@[simp] theorem acceptRec_csumErrCount (s : State) (r : Rec) : (acceptRec s r).csumErrCount = s.csumErrCount := rfl
@[simp] theorem acceptRec_parErrCount (s : State) (r : Rec) : (acceptRec s r).parErrCount = s.parErrCount := rfl
@[simp] theorem acceptRec_frameOkCount (s : State) (r : Rec) : (acceptRec s r).frameOkCount = s.frameOkCount + 1 := rfl
@[simp] theorem acceptRec_res (s : State) (r : Rec) : (acceptRec s r).res = recWords r := rfl
@[simp] theorem acceptRec_resSeq (s : State) (r : Rec) : (acceptRec s r).resSeq = s.resSeq + 1 := rfl
@[simp] theorem acceptRec_resNew (s : State) (r : Rec) : (acceptRec s r).resNew = true := rfl
@[simp] theorem acceptRec_capEn (s : State) (r : Rec) : (acceptRec s r).capEn = s.capEn := rfl
@[simp] theorem acceptRec_demEn (s : State) (r : Rec) : (acceptRec s r).demEn = s.demEn := rfl
@[simp] theorem acceptRec_srcSel (s : State) (r : Rec) : (acceptRec s r).srcSel = s.srcSel := rfl
@[simp] theorem acceptRec_ieRes (s : State) (r : Rec) : (acceptRec s r).ieRes = s.ieRes := rfl
@[simp] theorem acceptRec_ieOvf (s : State) (r : Rec) : (acceptRec s r).ieOvf = s.ieOvf := rfl
@[simp] theorem acceptRec_filterUs (s : State) (r : Rec) : (acceptRec s r).filterUs = s.filterUs := rfl
@[simp] theorem acceptRec_syncUs (s : State) (r : Rec) : (acceptRec s r).syncUs = s.syncUs := rfl
@[simp] theorem acceptRec_zeroUs (s : State) (r : Rec) : (acceptRec s r).zeroUs = s.zeroUs := rfl
@[simp] theorem acceptRec_oneUs (s : State) (r : Rec) : (acceptRec s r).oneUs = s.oneUs := rfl
@[simp] theorem acceptRec_tolUs (s : State) (r : Rec) : (acceptRec s r).tolUs = s.tolUs := rfl
@[simp] theorem acceptRec_syncMin (s : State) (r : Rec) : (acceptRec s r).syncMin = s.syncMin := rfl
@[simp] theorem acceptRec_recPort (s : State) (r : Rec) : (acceptRec s r).recPort = some (recWords r) := rfl
@[simp] theorem acceptRec_rdata (s : State) (r : Rec) : (acceptRec s r).rdata = s.rdata := rfl
@[simp] theorem acceptRec_events (s : State) (r : Rec) : (acceptRec s r).events = s.events ++ [.frameOk] := rfl
@[simp] theorem acceptRec_stim (s : State) (r : Rec) : (acceptRec s r).stim = s.stim := rfl

@[simp] theorem softReset_params (s : State) : (softReset s).params = s.params := rfl
@[simp] theorem softReset_ts (s : State) : (softReset s).ts = s.ts := rfl
@[simp] theorem softReset_ring (s : State) : (softReset s).ring = [] := rfl
@[simp] theorem softReset_wr (s : State) : (softReset s).wr = 0 := rfl
@[simp] theorem softReset_rd (s : State) : (softReset s).rd = 0 := rfl
@[simp] theorem softReset_filt (s : State) : (softReset s).filt = false := rfl
@[simp] theorem softReset_ovfActive (s : State) : (softReset s).ovfActive = false := rfl
@[simp] theorem softReset_ovf (s : State) : (softReset s).ovf = false := rfl
@[simp] theorem softReset_ovfCount (s : State) : (softReset s).ovfCount = 0 := rfl
@[simp] theorem softReset_prevTs (s : State) : (softReset s).prevTs = 0 := rfl
@[simp] theorem softReset_syncCnt (s : State) : (softReset s).syncCnt = 0 := rfl
@[simp] theorem softReset_nbits (s : State) : (softReset s).nbits = 0 := rfl
@[simp] theorem softReset_b (s : State) : (softReset s).b = Vector.replicate 10 0 := rfl
@[simp] theorem softReset_csumErrCount (s : State) : (softReset s).csumErrCount = 0 := rfl
@[simp] theorem softReset_parErrCount (s : State) : (softReset s).parErrCount = 0 := rfl
@[simp] theorem softReset_frameOkCount (s : State) : (softReset s).frameOkCount = 0 := rfl
@[simp] theorem softReset_res (s : State) : (softReset s).res = RecWords.zero := rfl
@[simp] theorem softReset_resSeq (s : State) : (softReset s).resSeq = s.resSeq := rfl
@[simp] theorem softReset_resNew (s : State) : (softReset s).resNew = false := rfl
@[simp] theorem softReset_capEn (s : State) : (softReset s).capEn = s.capEn := rfl
@[simp] theorem softReset_demEn (s : State) : (softReset s).demEn = s.demEn := rfl
@[simp] theorem softReset_srcSel (s : State) : (softReset s).srcSel = s.srcSel := rfl
@[simp] theorem softReset_ieRes (s : State) : (softReset s).ieRes = s.ieRes := rfl
@[simp] theorem softReset_ieOvf (s : State) : (softReset s).ieOvf = s.ieOvf := rfl
@[simp] theorem softReset_filterUs (s : State) : (softReset s).filterUs = s.filterUs := rfl
@[simp] theorem softReset_syncUs (s : State) : (softReset s).syncUs = s.syncUs := rfl
@[simp] theorem softReset_zeroUs (s : State) : (softReset s).zeroUs = s.zeroUs := rfl
@[simp] theorem softReset_oneUs (s : State) : (softReset s).oneUs = s.oneUs := rfl
@[simp] theorem softReset_tolUs (s : State) : (softReset s).tolUs = s.tolUs := rfl
@[simp] theorem softReset_syncMin (s : State) : (softReset s).syncMin = s.syncMin := rfl
@[simp] theorem softReset_recPort (s : State) : (softReset s).recPort = s.recPort := rfl
@[simp] theorem softReset_rdata (s : State) : (softReset s).rdata = s.rdata := rfl
@[simp] theorem softReset_events (s : State) : (softReset s).events = s.events := rfl
@[simp] theorem softReset_stim (s : State) : (softReset s).stim = s.stim := rfl

@[simp] theorem beginStep_params (s : State) (rest : List StimWord) : (beginStep s rest).params = s.params := rfl
@[simp] theorem beginStep_ts (s : State) (rest : List StimWord) : (beginStep s rest).ts = s.ts := rfl
@[simp] theorem beginStep_ring (s : State) (rest : List StimWord) : (beginStep s rest).ring = s.ring := rfl
@[simp] theorem beginStep_wr (s : State) (rest : List StimWord) : (beginStep s rest).wr = s.wr := rfl
@[simp] theorem beginStep_rd (s : State) (rest : List StimWord) : (beginStep s rest).rd = s.rd := rfl
@[simp] theorem beginStep_filt (s : State) (rest : List StimWord) : (beginStep s rest).filt = s.filt := rfl
@[simp] theorem beginStep_ovfActive (s : State) (rest : List StimWord) : (beginStep s rest).ovfActive = s.ovfActive := rfl
@[simp] theorem beginStep_ovf (s : State) (rest : List StimWord) : (beginStep s rest).ovf = s.ovf := rfl
@[simp] theorem beginStep_ovfCount (s : State) (rest : List StimWord) : (beginStep s rest).ovfCount = s.ovfCount := rfl
@[simp] theorem beginStep_prevTs (s : State) (rest : List StimWord) : (beginStep s rest).prevTs = s.prevTs := rfl
@[simp] theorem beginStep_syncCnt (s : State) (rest : List StimWord) : (beginStep s rest).syncCnt = s.syncCnt := rfl
@[simp] theorem beginStep_nbits (s : State) (rest : List StimWord) : (beginStep s rest).nbits = s.nbits := rfl
@[simp] theorem beginStep_b (s : State) (rest : List StimWord) : (beginStep s rest).b = s.b := rfl
@[simp] theorem beginStep_csumErrCount (s : State) (rest : List StimWord) : (beginStep s rest).csumErrCount = s.csumErrCount := rfl
@[simp] theorem beginStep_parErrCount (s : State) (rest : List StimWord) : (beginStep s rest).parErrCount = s.parErrCount := rfl
@[simp] theorem beginStep_frameOkCount (s : State) (rest : List StimWord) : (beginStep s rest).frameOkCount = s.frameOkCount := rfl
@[simp] theorem beginStep_res (s : State) (rest : List StimWord) : (beginStep s rest).res = s.res := rfl
@[simp] theorem beginStep_resSeq (s : State) (rest : List StimWord) : (beginStep s rest).resSeq = s.resSeq := rfl
@[simp] theorem beginStep_resNew (s : State) (rest : List StimWord) : (beginStep s rest).resNew = s.resNew := rfl
@[simp] theorem beginStep_capEn (s : State) (rest : List StimWord) : (beginStep s rest).capEn = s.capEn := rfl
@[simp] theorem beginStep_demEn (s : State) (rest : List StimWord) : (beginStep s rest).demEn = s.demEn := rfl
@[simp] theorem beginStep_srcSel (s : State) (rest : List StimWord) : (beginStep s rest).srcSel = s.srcSel := rfl
@[simp] theorem beginStep_ieRes (s : State) (rest : List StimWord) : (beginStep s rest).ieRes = s.ieRes := rfl
@[simp] theorem beginStep_ieOvf (s : State) (rest : List StimWord) : (beginStep s rest).ieOvf = s.ieOvf := rfl
@[simp] theorem beginStep_filterUs (s : State) (rest : List StimWord) : (beginStep s rest).filterUs = s.filterUs := rfl
@[simp] theorem beginStep_syncUs (s : State) (rest : List StimWord) : (beginStep s rest).syncUs = s.syncUs := rfl
@[simp] theorem beginStep_zeroUs (s : State) (rest : List StimWord) : (beginStep s rest).zeroUs = s.zeroUs := rfl
@[simp] theorem beginStep_oneUs (s : State) (rest : List StimWord) : (beginStep s rest).oneUs = s.oneUs := rfl
@[simp] theorem beginStep_tolUs (s : State) (rest : List StimWord) : (beginStep s rest).tolUs = s.tolUs := rfl
@[simp] theorem beginStep_syncMin (s : State) (rest : List StimWord) : (beginStep s rest).syncMin = s.syncMin := rfl
@[simp] theorem beginStep_recPort (s : State) (rest : List StimWord) : (beginStep s rest).recPort = none := rfl
@[simp] theorem beginStep_rdata (s : State) (rest : List StimWord) : (beginStep s rest).rdata = none := rfl
@[simp] theorem beginStep_events (s : State) (rest : List StimWord) : (beginStep s rest).events = [] := rfl
@[simp] theorem beginStep_stim (s : State) (rest : List StimWord) : (beginStep s rest).stim = rest := rfl

@[simp] theorem takeEntry_params (s : State) : (takeEntry s).params = s.params := rfl
@[simp] theorem takeEntry_ts (s : State) : (takeEntry s).ts = s.ts := rfl
@[simp] theorem takeEntry_ring (s : State) : (takeEntry s).ring = s.ring := rfl
@[simp] theorem takeEntry_wr (s : State) : (takeEntry s).wr = s.wr := rfl
@[simp] theorem takeEntry_rd (s : State) : (takeEntry s).rd = nextSlot s s.rd := rfl
@[simp] theorem takeEntry_filt (s : State) : (takeEntry s).filt = s.filt := rfl
@[simp] theorem takeEntry_ovfActive (s : State) : (takeEntry s).ovfActive = s.ovfActive := rfl
@[simp] theorem takeEntry_ovf (s : State) : (takeEntry s).ovf = s.ovf := rfl
@[simp] theorem takeEntry_ovfCount (s : State) : (takeEntry s).ovfCount = s.ovfCount := rfl
@[simp] theorem takeEntry_prevTs (s : State) : (takeEntry s).prevTs = consumedTs s := rfl
@[simp] theorem takeEntry_syncCnt (s : State) : (takeEntry s).syncCnt = s.syncCnt := rfl
@[simp] theorem takeEntry_nbits (s : State) : (takeEntry s).nbits = s.nbits := rfl
@[simp] theorem takeEntry_b (s : State) : (takeEntry s).b = s.b := rfl
@[simp] theorem takeEntry_csumErrCount (s : State) : (takeEntry s).csumErrCount = s.csumErrCount := rfl
@[simp] theorem takeEntry_parErrCount (s : State) : (takeEntry s).parErrCount = s.parErrCount := rfl
@[simp] theorem takeEntry_frameOkCount (s : State) : (takeEntry s).frameOkCount = s.frameOkCount := rfl
@[simp] theorem takeEntry_res (s : State) : (takeEntry s).res = s.res := rfl
@[simp] theorem takeEntry_resSeq (s : State) : (takeEntry s).resSeq = s.resSeq := rfl
@[simp] theorem takeEntry_resNew (s : State) : (takeEntry s).resNew = s.resNew := rfl
@[simp] theorem takeEntry_capEn (s : State) : (takeEntry s).capEn = s.capEn := rfl
@[simp] theorem takeEntry_demEn (s : State) : (takeEntry s).demEn = s.demEn := rfl
@[simp] theorem takeEntry_srcSel (s : State) : (takeEntry s).srcSel = s.srcSel := rfl
@[simp] theorem takeEntry_ieRes (s : State) : (takeEntry s).ieRes = s.ieRes := rfl
@[simp] theorem takeEntry_ieOvf (s : State) : (takeEntry s).ieOvf = s.ieOvf := rfl
@[simp] theorem takeEntry_filterUs (s : State) : (takeEntry s).filterUs = s.filterUs := rfl
@[simp] theorem takeEntry_syncUs (s : State) : (takeEntry s).syncUs = s.syncUs := rfl
@[simp] theorem takeEntry_zeroUs (s : State) : (takeEntry s).zeroUs = s.zeroUs := rfl
@[simp] theorem takeEntry_oneUs (s : State) : (takeEntry s).oneUs = s.oneUs := rfl
@[simp] theorem takeEntry_tolUs (s : State) : (takeEntry s).tolUs = s.tolUs := rfl
@[simp] theorem takeEntry_syncMin (s : State) : (takeEntry s).syncMin = s.syncMin := rfl
@[simp] theorem takeEntry_recPort (s : State) : (takeEntry s).recPort = s.recPort := rfl
@[simp] theorem takeEntry_rdata (s : State) : (takeEntry s).rdata = s.rdata := rfl
@[simp] theorem takeEntry_events (s : State) : (takeEntry s).events = s.events := rfl
@[simp] theorem takeEntry_stim (s : State) : (takeEntry s).stim = s.stim := rfl

@[simp] theorem storeBit_params (v : Bool) (s : State) : (storeBit v s).params = s.params := rfl
@[simp] theorem storeBit_ts (v : Bool) (s : State) : (storeBit v s).ts = s.ts := rfl
@[simp] theorem storeBit_ring (v : Bool) (s : State) : (storeBit v s).ring = s.ring := rfl
@[simp] theorem storeBit_wr (v : Bool) (s : State) : (storeBit v s).wr = s.wr := rfl
@[simp] theorem storeBit_rd (v : Bool) (s : State) : (storeBit v s).rd = s.rd := rfl
@[simp] theorem storeBit_filt (v : Bool) (s : State) : (storeBit v s).filt = s.filt := rfl
@[simp] theorem storeBit_ovfActive (v : Bool) (s : State) : (storeBit v s).ovfActive = s.ovfActive := rfl
@[simp] theorem storeBit_ovf (v : Bool) (s : State) : (storeBit v s).ovf = s.ovf := rfl
@[simp] theorem storeBit_ovfCount (v : Bool) (s : State) : (storeBit v s).ovfCount = s.ovfCount := rfl
@[simp] theorem storeBit_prevTs (v : Bool) (s : State) : (storeBit v s).prevTs = s.prevTs := rfl
@[simp] theorem storeBit_syncCnt (v : Bool) (s : State) : (storeBit v s).syncCnt = s.syncCnt := rfl
@[simp] theorem storeBit_nbits (v : Bool) (s : State) : (storeBit v s).nbits = s.nbits + 1 := rfl
@[simp] theorem storeBit_csumErrCount (v : Bool) (s : State) : (storeBit v s).csumErrCount = s.csumErrCount := rfl
@[simp] theorem storeBit_parErrCount (v : Bool) (s : State) : (storeBit v s).parErrCount = s.parErrCount := rfl
@[simp] theorem storeBit_frameOkCount (v : Bool) (s : State) : (storeBit v s).frameOkCount = s.frameOkCount := rfl
@[simp] theorem storeBit_res (v : Bool) (s : State) : (storeBit v s).res = s.res := rfl
@[simp] theorem storeBit_resSeq (v : Bool) (s : State) : (storeBit v s).resSeq = s.resSeq := rfl
@[simp] theorem storeBit_resNew (v : Bool) (s : State) : (storeBit v s).resNew = s.resNew := rfl
@[simp] theorem storeBit_capEn (v : Bool) (s : State) : (storeBit v s).capEn = s.capEn := rfl
@[simp] theorem storeBit_demEn (v : Bool) (s : State) : (storeBit v s).demEn = s.demEn := rfl
@[simp] theorem storeBit_srcSel (v : Bool) (s : State) : (storeBit v s).srcSel = s.srcSel := rfl
@[simp] theorem storeBit_ieRes (v : Bool) (s : State) : (storeBit v s).ieRes = s.ieRes := rfl
@[simp] theorem storeBit_ieOvf (v : Bool) (s : State) : (storeBit v s).ieOvf = s.ieOvf := rfl
@[simp] theorem storeBit_filterUs (v : Bool) (s : State) : (storeBit v s).filterUs = s.filterUs := rfl
@[simp] theorem storeBit_syncUs (v : Bool) (s : State) : (storeBit v s).syncUs = s.syncUs := rfl
@[simp] theorem storeBit_zeroUs (v : Bool) (s : State) : (storeBit v s).zeroUs = s.zeroUs := rfl
@[simp] theorem storeBit_oneUs (v : Bool) (s : State) : (storeBit v s).oneUs = s.oneUs := rfl
@[simp] theorem storeBit_tolUs (v : Bool) (s : State) : (storeBit v s).tolUs = s.tolUs := rfl
@[simp] theorem storeBit_syncMin (v : Bool) (s : State) : (storeBit v s).syncMin = s.syncMin := rfl
@[simp] theorem storeBit_recPort (v : Bool) (s : State) : (storeBit v s).recPort = s.recPort := rfl
@[simp] theorem storeBit_rdata (v : Bool) (s : State) : (storeBit v s).rdata = s.rdata := rfl
@[simp] theorem storeBit_events (v : Bool) (s : State) : (storeBit v s).events = s.events := rfl
@[simp] theorem storeBit_stim (v : Bool) (s : State) : (storeBit v s).stim = s.stim := rfl

@[simp] theorem countSync_params (s : State) : (countSync s).params = s.params := rfl
@[simp] theorem countSync_ts (s : State) : (countSync s).ts = s.ts := rfl
@[simp] theorem countSync_ring (s : State) : (countSync s).ring = s.ring := rfl
@[simp] theorem countSync_wr (s : State) : (countSync s).wr = s.wr := rfl
@[simp] theorem countSync_rd (s : State) : (countSync s).rd = s.rd := rfl
@[simp] theorem countSync_filt (s : State) : (countSync s).filt = s.filt := rfl
@[simp] theorem countSync_ovfActive (s : State) : (countSync s).ovfActive = s.ovfActive := rfl
@[simp] theorem countSync_ovf (s : State) : (countSync s).ovf = s.ovf := rfl
@[simp] theorem countSync_ovfCount (s : State) : (countSync s).ovfCount = s.ovfCount := rfl
@[simp] theorem countSync_prevTs (s : State) : (countSync s).prevTs = s.prevTs := rfl
@[simp] theorem countSync_syncCnt (s : State) : (countSync s).syncCnt = if s.syncCnt = 255 then 255 else s.syncCnt + 1 := rfl
@[simp] theorem countSync_nbits (s : State) : (countSync s).nbits = s.nbits := rfl
@[simp] theorem countSync_b (s : State) : (countSync s).b = s.b := rfl
@[simp] theorem countSync_csumErrCount (s : State) : (countSync s).csumErrCount = s.csumErrCount := rfl
@[simp] theorem countSync_parErrCount (s : State) : (countSync s).parErrCount = s.parErrCount := rfl
@[simp] theorem countSync_frameOkCount (s : State) : (countSync s).frameOkCount = s.frameOkCount := rfl
@[simp] theorem countSync_res (s : State) : (countSync s).res = s.res := rfl
@[simp] theorem countSync_resSeq (s : State) : (countSync s).resSeq = s.resSeq := rfl
@[simp] theorem countSync_resNew (s : State) : (countSync s).resNew = s.resNew := rfl
@[simp] theorem countSync_capEn (s : State) : (countSync s).capEn = s.capEn := rfl
@[simp] theorem countSync_demEn (s : State) : (countSync s).demEn = s.demEn := rfl
@[simp] theorem countSync_srcSel (s : State) : (countSync s).srcSel = s.srcSel := rfl
@[simp] theorem countSync_ieRes (s : State) : (countSync s).ieRes = s.ieRes := rfl
@[simp] theorem countSync_ieOvf (s : State) : (countSync s).ieOvf = s.ieOvf := rfl
@[simp] theorem countSync_filterUs (s : State) : (countSync s).filterUs = s.filterUs := rfl
@[simp] theorem countSync_syncUs (s : State) : (countSync s).syncUs = s.syncUs := rfl
@[simp] theorem countSync_zeroUs (s : State) : (countSync s).zeroUs = s.zeroUs := rfl
@[simp] theorem countSync_oneUs (s : State) : (countSync s).oneUs = s.oneUs := rfl
@[simp] theorem countSync_tolUs (s : State) : (countSync s).tolUs = s.tolUs := rfl
@[simp] theorem countSync_syncMin (s : State) : (countSync s).syncMin = s.syncMin := rfl
@[simp] theorem countSync_recPort (s : State) : (countSync s).recPort = s.recPort := rfl
@[simp] theorem countSync_rdata (s : State) : (countSync s).rdata = s.rdata := rfl
@[simp] theorem countSync_events (s : State) : (countSync s).events = s.events := rfl
@[simp] theorem countSync_stim (s : State) : (countSync s).stim = s.stim := rfl

@[simp] theorem setCtrl_params (s : State) (v : Word) : (setCtrl s v).params = s.params := rfl
@[simp] theorem setCtrl_ts (s : State) (v : Word) : (setCtrl s v).ts = s.ts := rfl
@[simp] theorem setCtrl_ring (s : State) (v : Word) : (setCtrl s v).ring = s.ring := rfl
@[simp] theorem setCtrl_wr (s : State) (v : Word) : (setCtrl s v).wr = s.wr := rfl
@[simp] theorem setCtrl_rd (s : State) (v : Word) : (setCtrl s v).rd = s.rd := rfl
@[simp] theorem setCtrl_filt (s : State) (v : Word) : (setCtrl s v).filt = s.filt := rfl
@[simp] theorem setCtrl_ovfActive (s : State) (v : Word) : (setCtrl s v).ovfActive = s.ovfActive := rfl
@[simp] theorem setCtrl_ovf (s : State) (v : Word) : (setCtrl s v).ovf = s.ovf := rfl
@[simp] theorem setCtrl_ovfCount (s : State) (v : Word) : (setCtrl s v).ovfCount = s.ovfCount := rfl
@[simp] theorem setCtrl_prevTs (s : State) (v : Word) : (setCtrl s v).prevTs = s.prevTs := rfl
@[simp] theorem setCtrl_syncCnt (s : State) (v : Word) : (setCtrl s v).syncCnt = s.syncCnt := rfl
@[simp] theorem setCtrl_nbits (s : State) (v : Word) : (setCtrl s v).nbits = s.nbits := rfl
@[simp] theorem setCtrl_b (s : State) (v : Word) : (setCtrl s v).b = s.b := rfl
@[simp] theorem setCtrl_csumErrCount (s : State) (v : Word) : (setCtrl s v).csumErrCount = s.csumErrCount := rfl
@[simp] theorem setCtrl_parErrCount (s : State) (v : Word) : (setCtrl s v).parErrCount = s.parErrCount := rfl
@[simp] theorem setCtrl_frameOkCount (s : State) (v : Word) : (setCtrl s v).frameOkCount = s.frameOkCount := rfl
@[simp] theorem setCtrl_res (s : State) (v : Word) : (setCtrl s v).res = s.res := rfl
@[simp] theorem setCtrl_resSeq (s : State) (v : Word) : (setCtrl s v).resSeq = s.resSeq := rfl
@[simp] theorem setCtrl_resNew (s : State) (v : Word) : (setCtrl s v).resNew = s.resNew := rfl
@[simp] theorem setCtrl_capEn (s : State) (v : Word) : (setCtrl s v).capEn = v.getLsbD 0 := rfl
@[simp] theorem setCtrl_demEn (s : State) (v : Word) : (setCtrl s v).demEn = v.getLsbD 1 := rfl
@[simp] theorem setCtrl_srcSel (s : State) (v : Word) : (setCtrl s v).srcSel = v.getLsbD 2 := rfl
@[simp] theorem setCtrl_ieRes (s : State) (v : Word) : (setCtrl s v).ieRes = v.getLsbD 3 := rfl
@[simp] theorem setCtrl_ieOvf (s : State) (v : Word) : (setCtrl s v).ieOvf = v.getLsbD 4 := rfl
@[simp] theorem setCtrl_filterUs (s : State) (v : Word) : (setCtrl s v).filterUs = s.filterUs := rfl
@[simp] theorem setCtrl_syncUs (s : State) (v : Word) : (setCtrl s v).syncUs = s.syncUs := rfl
@[simp] theorem setCtrl_zeroUs (s : State) (v : Word) : (setCtrl s v).zeroUs = s.zeroUs := rfl
@[simp] theorem setCtrl_oneUs (s : State) (v : Word) : (setCtrl s v).oneUs = s.oneUs := rfl
@[simp] theorem setCtrl_tolUs (s : State) (v : Word) : (setCtrl s v).tolUs = s.tolUs := rfl
@[simp] theorem setCtrl_syncMin (s : State) (v : Word) : (setCtrl s v).syncMin = s.syncMin := rfl
@[simp] theorem setCtrl_recPort (s : State) (v : Word) : (setCtrl s v).recPort = s.recPort := rfl
@[simp] theorem setCtrl_rdata (s : State) (v : Word) : (setCtrl s v).rdata = s.rdata := rfl
@[simp] theorem setCtrl_events (s : State) (v : Word) : (setCtrl s v).events = s.events := rfl
@[simp] theorem setCtrl_stim (s : State) (v : Word) : (setCtrl s v).stim = s.stim := rfl

/-- A sync reset changes at most `sync_cnt` and the events. -/
theorem resetSync_eq (s : State) :
    resetSync s = { s with syncCnt := 0, events := (resetSync s).events } := by
  unfold resetSync; split <;> rfl

@[simp] theorem resetSync_params (s : State) : (resetSync s).params = s.params := by rw [resetSync_eq]
@[simp] theorem resetSync_ts (s : State) : (resetSync s).ts = s.ts := by rw [resetSync_eq]
@[simp] theorem resetSync_ring (s : State) : (resetSync s).ring = s.ring := by rw [resetSync_eq]
@[simp] theorem resetSync_wr (s : State) : (resetSync s).wr = s.wr := by rw [resetSync_eq]
@[simp] theorem resetSync_rd (s : State) : (resetSync s).rd = s.rd := by rw [resetSync_eq]
@[simp] theorem resetSync_filt (s : State) : (resetSync s).filt = s.filt := by rw [resetSync_eq]
@[simp] theorem resetSync_ovfActive (s : State) : (resetSync s).ovfActive = s.ovfActive := by rw [resetSync_eq]
@[simp] theorem resetSync_ovf (s : State) : (resetSync s).ovf = s.ovf := by rw [resetSync_eq]
@[simp] theorem resetSync_ovfCount (s : State) : (resetSync s).ovfCount = s.ovfCount := by rw [resetSync_eq]
@[simp] theorem resetSync_prevTs (s : State) : (resetSync s).prevTs = s.prevTs := by rw [resetSync_eq]
@[simp] theorem resetSync_syncCnt (s : State) : (resetSync s).syncCnt = 0 := by rw [resetSync_eq]
@[simp] theorem resetSync_nbits (s : State) : (resetSync s).nbits = s.nbits := by rw [resetSync_eq]
@[simp] theorem resetSync_b (s : State) : (resetSync s).b = s.b := by rw [resetSync_eq]
@[simp] theorem resetSync_csumErrCount (s : State) : (resetSync s).csumErrCount = s.csumErrCount := by rw [resetSync_eq]
@[simp] theorem resetSync_parErrCount (s : State) : (resetSync s).parErrCount = s.parErrCount := by rw [resetSync_eq]
@[simp] theorem resetSync_frameOkCount (s : State) : (resetSync s).frameOkCount = s.frameOkCount := by rw [resetSync_eq]
@[simp] theorem resetSync_res (s : State) : (resetSync s).res = s.res := by rw [resetSync_eq]
@[simp] theorem resetSync_resSeq (s : State) : (resetSync s).resSeq = s.resSeq := by rw [resetSync_eq]
@[simp] theorem resetSync_resNew (s : State) : (resetSync s).resNew = s.resNew := by rw [resetSync_eq]
@[simp] theorem resetSync_capEn (s : State) : (resetSync s).capEn = s.capEn := by rw [resetSync_eq]
@[simp] theorem resetSync_demEn (s : State) : (resetSync s).demEn = s.demEn := by rw [resetSync_eq]
@[simp] theorem resetSync_srcSel (s : State) : (resetSync s).srcSel = s.srcSel := by rw [resetSync_eq]
@[simp] theorem resetSync_ieRes (s : State) : (resetSync s).ieRes = s.ieRes := by rw [resetSync_eq]
@[simp] theorem resetSync_ieOvf (s : State) : (resetSync s).ieOvf = s.ieOvf := by rw [resetSync_eq]
@[simp] theorem resetSync_filterUs (s : State) : (resetSync s).filterUs = s.filterUs := by rw [resetSync_eq]
@[simp] theorem resetSync_syncUs (s : State) : (resetSync s).syncUs = s.syncUs := by rw [resetSync_eq]
@[simp] theorem resetSync_zeroUs (s : State) : (resetSync s).zeroUs = s.zeroUs := by rw [resetSync_eq]
@[simp] theorem resetSync_oneUs (s : State) : (resetSync s).oneUs = s.oneUs := by rw [resetSync_eq]
@[simp] theorem resetSync_tolUs (s : State) : (resetSync s).tolUs = s.tolUs := by rw [resetSync_eq]
@[simp] theorem resetSync_syncMin (s : State) : (resetSync s).syncMin = s.syncMin := by rw [resetSync_eq]
@[simp] theorem resetSync_recPort (s : State) : (resetSync s).recPort = s.recPort := by rw [resetSync_eq]
@[simp] theorem resetSync_rdata (s : State) : (resetSync s).rdata = s.rdata := by rw [resetSync_eq]
@[simp] theorem resetSync_stim (s : State) : (resetSync s).stim = s.stim := by rw [resetSync_eq]

@[simp] theorem hardwareReset_params (s : State) : (hardwareReset s).params = s.params := rfl
@[simp] theorem hardwareReset_ts (s : State) : (hardwareReset s).ts = (State.resetWith s.params).ts := rfl
@[simp] theorem hardwareReset_ring (s : State) : (hardwareReset s).ring = (State.resetWith s.params).ring := rfl
@[simp] theorem hardwareReset_wr (s : State) : (hardwareReset s).wr = (State.resetWith s.params).wr := rfl
@[simp] theorem hardwareReset_rd (s : State) : (hardwareReset s).rd = (State.resetWith s.params).rd := rfl
@[simp] theorem hardwareReset_filt (s : State) : (hardwareReset s).filt = (State.resetWith s.params).filt := rfl
@[simp] theorem hardwareReset_ovfActive (s : State) : (hardwareReset s).ovfActive = (State.resetWith s.params).ovfActive := rfl
@[simp] theorem hardwareReset_ovf (s : State) : (hardwareReset s).ovf = (State.resetWith s.params).ovf := rfl
@[simp] theorem hardwareReset_ovfCount (s : State) : (hardwareReset s).ovfCount = (State.resetWith s.params).ovfCount := rfl
@[simp] theorem hardwareReset_prevTs (s : State) : (hardwareReset s).prevTs = (State.resetWith s.params).prevTs := rfl
@[simp] theorem hardwareReset_syncCnt (s : State) : (hardwareReset s).syncCnt = (State.resetWith s.params).syncCnt := rfl
@[simp] theorem hardwareReset_nbits (s : State) : (hardwareReset s).nbits = (State.resetWith s.params).nbits := rfl
@[simp] theorem hardwareReset_b (s : State) : (hardwareReset s).b = (State.resetWith s.params).b := rfl
@[simp] theorem hardwareReset_csumErrCount (s : State) : (hardwareReset s).csumErrCount = (State.resetWith s.params).csumErrCount := rfl
@[simp] theorem hardwareReset_parErrCount (s : State) : (hardwareReset s).parErrCount = (State.resetWith s.params).parErrCount := rfl
@[simp] theorem hardwareReset_frameOkCount (s : State) : (hardwareReset s).frameOkCount = (State.resetWith s.params).frameOkCount := rfl
@[simp] theorem hardwareReset_res (s : State) : (hardwareReset s).res = (State.resetWith s.params).res := rfl
@[simp] theorem hardwareReset_resSeq (s : State) : (hardwareReset s).resSeq = (State.resetWith s.params).resSeq := rfl
@[simp] theorem hardwareReset_resNew (s : State) : (hardwareReset s).resNew = (State.resetWith s.params).resNew := rfl
@[simp] theorem hardwareReset_capEn (s : State) : (hardwareReset s).capEn = (State.resetWith s.params).capEn := rfl
@[simp] theorem hardwareReset_demEn (s : State) : (hardwareReset s).demEn = (State.resetWith s.params).demEn := rfl
@[simp] theorem hardwareReset_srcSel (s : State) : (hardwareReset s).srcSel = (State.resetWith s.params).srcSel := rfl
@[simp] theorem hardwareReset_ieRes (s : State) : (hardwareReset s).ieRes = (State.resetWith s.params).ieRes := rfl
@[simp] theorem hardwareReset_ieOvf (s : State) : (hardwareReset s).ieOvf = (State.resetWith s.params).ieOvf := rfl
@[simp] theorem hardwareReset_filterUs (s : State) : (hardwareReset s).filterUs = (State.resetWith s.params).filterUs := rfl
@[simp] theorem hardwareReset_syncUs (s : State) : (hardwareReset s).syncUs = (State.resetWith s.params).syncUs := rfl
@[simp] theorem hardwareReset_zeroUs (s : State) : (hardwareReset s).zeroUs = (State.resetWith s.params).zeroUs := rfl
@[simp] theorem hardwareReset_oneUs (s : State) : (hardwareReset s).oneUs = (State.resetWith s.params).oneUs := rfl
@[simp] theorem hardwareReset_tolUs (s : State) : (hardwareReset s).tolUs = (State.resetWith s.params).tolUs := rfl
@[simp] theorem hardwareReset_syncMin (s : State) : (hardwareReset s).syncMin = (State.resetWith s.params).syncMin := rfl
@[simp] theorem hardwareReset_recPort (s : State) : (hardwareReset s).recPort = (State.resetWith s.params).recPort := rfl
@[simp] theorem hardwareReset_rdata (s : State) : (hardwareReset s).rdata = (State.resetWith s.params).rdata := rfl
@[simp] theorem hardwareReset_events (s : State) : (hardwareReset s).events = (State.resetWith s.params).events := rfl
@[simp] theorem hardwareReset_stim (s : State) : (hardwareReset s).stim = s.stim := rfl

end Sys2Proof.Machine
end

