-- ==== Sys2Proof/Laws/DecodeStep.lean ====
section
/-! SUPPORT. What the demultiplexer can do: the outcomes of one try, the flag it answers, the format it
runs, and the state it leaves alone. -/

namespace Sys2Proof.Machine

/-- `t` differs from `s` at most in what `DECODE_STEP` may write (44_decoders.md R201, *Writes*) and in the
events. -/
def DecodeOnly (s t : State) : Prop :=
  t = { s with
    csumErrCount := t.csumErrCount
    parErrCount := t.parErrCount
    frameOkCount := t.frameOkCount
    res := t.res
    resSeq := t.resSeq
    resNew := t.resNew
    recPort := t.recPort
    events := t.events }

theorem DecodeOnly.rfl (s : State) : DecodeOnly s s := by cases s; unfold DecodeOnly; rfl

theorem DecodeOnly.trans {s t u : State} (h : DecodeOnly s t) (h' : DecodeOnly t u) : DecodeOnly s u := by
  unfold DecodeOnly at *
  rw [h'] ; rw [h]

theorem DecodeOnly.b {s t : State} (h : DecodeOnly s t) : t.b = s.b := by rw [h]
theorem DecodeOnly.nbits {s t : State} (h : DecodeOnly s t) : t.nbits = s.nbits := by rw [h]
theorem DecodeOnly.syncCnt {s t : State} (h : DecodeOnly s t) : t.syncCnt = s.syncCnt := by rw [h]
theorem DecodeOnly.params {s t : State} (h : DecodeOnly s t) : t.params = s.params := by rw [h]

theorem DecodeOnly.note {s t : State} (e : Event) (h : DecodeOnly s t) : DecodeOnly s (note t e) := by
  unfold DecodeOnly at *
  rw [h]; rfl

/-- The three outcomes of a format whose length and discriminator fit (44_decoders.md R201): checksum
failure, parity failure, accept. -/
theorem validateAndAccept_cases (f : Format) (bs : List Byte) (r : Rec) (m : Mode) (s : State) :
    (checksum bs = false ∧
      validateAndAccept f bs r m s = (false, if m = .count then countCsumFail s else s)) ∨
    (checksum bs = true ∧ formatParity f bs = false ∧
      validateAndAccept f bs r m s = (false, if m = .count then countParityFail s else s)) ∨
    (checksum bs = true ∧ formatParity f bs = true ∧
      validateAndAccept f bs r m s = (true, acceptRec s r)) := by
  unfold validateAndAccept
  cases checksum bs <;> cases formatParity f bs <;> simp

theorem validateAndAccept_fst (f : Format) (bs : List Byte) (r : Rec) (m : Mode) (s : State) :
    (validateAndAccept f bs r m s).1 = (checksum bs && formatParity f bs) := by
  unfold validateAndAccept
  cases checksum bs <;> cases formatParity f bs <;> rfl

theorem validateAndAccept_decodeOnly (f : Format) (bs : List Byte) (r : Rec) (m : Mode) (s : State) :
    DecodeOnly s (validateAndAccept f bs r m s).2 := by
  unfold validateAndAccept
  cases checksum bs <;> cases formatParity f bs <;> cases m <;>
    (cases s; unfold DecodeOnly; rfl)

/-- Every row of a format is a validation with that format's record (44_decoders.md R201). -/
theorem tryRow_eq (f : Format) (bs : List Byte) (m : Mode) (s : State) :
    ∃ r : Rec, tryRow f bs m s = validateAndAccept f bs r m s := by
  cases f
  case atlas => simp only [tryRow]; (repeat' split) <;> exact ⟨_, rfl⟩
  case iris => simp only [tryRow]; split <;> exact ⟨_, rfl⟩
  all_goals exact ⟨_, rfl⟩

theorem tryFormat_fst (f : Format) (bs : List Byte) (m : Mode) (s : State) :
    (tryFormat f bs m s).1 = (formatMatches f bs && checksum bs && formatParity f bs) := by
  unfold tryFormat
  split
  · next h =>
    obtain ⟨r, hr⟩ := tryRow_eq f bs m s
    rw [hr, validateAndAccept_fst, h, Bool.true_and]
  · next h =>
    rw [Bool.not_eq_true] at h
    rw [h]; rfl

theorem tryFormat_decodeOnly (f : Format) (bs : List Byte) (m : Mode) (s : State) :
    DecodeOnly s (tryFormat f bs m s).2 := by
  unfold tryFormat
  split
  · obtain ⟨r, hr⟩ := tryRow_eq f bs m s
    rw [hr]; exact validateAndAccept_decodeOnly f bs r m s
  · exact DecodeOnly.rfl s

theorem tryFormats_fst (bs : List Byte) (m : Mode) (fs : List Format) (s : State) :
    (tryFormats bs m fs s).1 = fs.any (fun f => formatMatches f bs && checksum bs && formatParity f bs) := by
  induction fs generalizing s with
  | nil => rfl
  | cons f fs ih =>
    have h := tryFormat_fst f bs m s
    rw [List.any_cons, ← h]
    unfold tryFormats
    split
    · next ht => rw [ht]; rfl
    · next ht => rw [ht, ih]; rfl

theorem tryFormats_decodeOnly (bs : List Byte) (m : Mode) (fs : List Format) (s : State) :
    DecodeOnly s (tryFormats bs m fs s).2 := by
  induction fs generalizing s with
  | nil => exact DecodeOnly.rfl s
  | cons f fs ih =>
    have h := tryFormat_decodeOnly f bs m s
    unfold tryFormats
    split
    · next t ht => rw [ht] at h; exact h
    · next t ht => rw [ht] at h; exact h.trans (ih t)

theorem noteNoMatch_decodeOnly (bs : List Byte) (m : Mode) (s : State) : DecodeOnly s (noteNoMatch bs m s) := by
  unfold noteNoMatch
  split
  · exact (DecodeOnly.rfl s).note _
  · exact DecodeOnly.rfl s

/-- `DECODE_STEP` answers ACCEPTED exactly where some decoder accepts the prefix (44_decoders.md R201). -/
theorem decodeStep_fst (n : Nat) (m : Mode) (s : State) :
    (decodeStep n m s).1 = acceptable (framePrefix s n) := tryFormats_fst _ _ _ _

/-- `DECODE_STEP` writes only what R201 lists. -/
theorem decodeStep_decodeOnly (n : Nat) (m : Mode) (s : State) : DecodeOnly s (decodeStep n m s).2 :=
  (noteNoMatch_decodeOnly _ m s).trans (tryFormats_decodeOnly _ m _ _)

/-- A loop over formats none of which fits does nothing. -/
theorem tryFormats_none {bs : List Byte} (m : Mode) {fs : List Format} (s : State)
    (h : ∀ f ∈ fs, formatMatches f bs = false) : tryFormats bs m fs s = (false, s) := by
  induction fs with
  | nil => rfl
  | cons f fs ih =>
    have hf := h f (by simp)
    unfold tryFormats tryFormat
    rw [hf]
    exact ih fun g hg => h g (by simp [hg])

/-- A loop over formats of which exactly one fits runs that one. -/
theorem tryFormats_one {bs : List Byte} {f : Format} (m : Mode) {fs : List Format} (s : State)
    (hf : f ∈ fs) (hm : formatMatches f bs = true) (hn : fs.Nodup)
    (h : ∀ g ∈ fs, g ≠ f → formatMatches g bs = false) : tryFormats bs m fs s = tryRow f bs m s := by
  induction fs with
  | nil => cases hf
  | cons g fs ih =>
    rw [List.nodup_cons] at hn
    by_cases hg : g = f
    · subst hg
      unfold tryFormats tryFormat
      rw [hm, if_pos rfl]
      split
      · next ht => exact ht.symm
      · next t ht =>
        rw [ht]
        exact tryFormats_none m t fun k hk => h k (by simp [hk]) fun e => hn.1 (e ▸ hk)
    · have hgm := h g (by simp) hg
      unfold tryFormats tryFormat
      rw [hgm]
      refine ih ?_ hn.2 fun k hk => h k (by simp [hk])
      rcases List.mem_cons.mp hf with e | e
      · exact absurd e.symm hg
      · exact e

end Sys2Proof.Machine
end

