-- ==== Sys2Proof/Laws/BitAssembler.lean ====
section
/-! SUPPORT. What one pulse can do in the bit assembler: the outcomes of `APPEND_BIT` and of `BAS_PULSE`,
the bits of the frame they write, and the state they leave alone. -/

namespace Sys2Proof.Machine

theorem DemOnly.rfl (s : State) : DemOnly s s := by cases s; unfold DemOnly; rfl

theorem DemOnly.trans {s t u : State} (h : DemOnly s t) (h' : DemOnly t u) : DemOnly s u := by
  unfold DemOnly at *
  rw [h']; rw [h]

theorem DecodeOnly.demOnly {s t : State} (h : DecodeOnly s t) : DemOnly s t := by
  unfold DecodeOnly at h
  unfold DemOnly
  rw [h]

theorem frameReset_demOnly (s : State) : DemOnly s (frameReset s) := by
  cases s; unfold DemOnly; rfl

theorem note_demOnly (s : State) (e : Event) : DemOnly s (note s e) := by
  cases s; unfold DemOnly; rfl

theorem storeBit_demOnly (v : Bool) (s : State) : DemOnly s (storeBit v s) := by
  cases s; unfold DemOnly; rfl

theorem countSync_demOnly (s : State) : DemOnly s (countSync s) := by
  cases s; unfold DemOnly; rfl

theorem resetSync_demOnly (s : State) : DemOnly s (resetSync s) := by
  unfold resetSync
  split <;> (cases s; unfold DemOnly; rfl)

/-- The three outcomes of a byte boundary (42_bit_assembler.md R175 to R177). -/
theorem byteComplete_cases (n : Nat) (s : State) :
    (acceptable (framePrefix s n) = true ∧ byteComplete n s = frameReset (decodeStep n .count s).2) ∨
    (acceptable (framePrefix s n) = false ∧ n = maxBytes ∧
      byteComplete n s = frameReset (note (decodeStep n .count s).2 .maxReset)) ∨
    (acceptable (framePrefix s n) = false ∧ n ≠ maxBytes ∧
      byteComplete n s = (decodeStep n .count s).2) := by
  have h := decodeStep_fst n .count s
  unfold byteComplete
  split
  · next t ht => rw [ht] at h; exact .inl ⟨h.symm, by rw [ht]⟩
  · next t ht =>
    rw [ht] at h
    by_cases hn : n = maxBytes
    · exact .inr (.inl ⟨h.symm, hn, by rw [if_pos hn, ht]⟩)
    · exact .inr (.inr ⟨h.symm, hn, by rw [if_neg hn, ht]⟩)

theorem byteComplete_demOnly (n : Nat) (s : State) : DemOnly s (byteComplete n s) := by
  have hd := (decodeStep_decodeOnly n .count s).demOnly
  rcases byteComplete_cases n s with ⟨_, h⟩ | ⟨_, _, h⟩ | ⟨_, _, h⟩ <;> rw [h]
  · exact hd.trans (frameReset_demOnly _)
  · exact (hd.trans (note_demOnly _ _)).trans (frameReset_demOnly _)
  · exact hd

/-- The four outcomes of `APPEND_BIT` (42_bit_assembler.md R174 to R177). -/
theorem appendBit_cases (v : Bool) (s : State) :
    ((storeBit v s).nbits.toNat % 8 ≠ 0 ∧ appendBit v s = storeBit v s) ∨
    ((storeBit v s).nbits.toNat % 8 = 0 ∧
      appendBit v s = byteComplete ((storeBit v s).nbits.toNat / 8) (storeBit v s)) := by
  unfold appendBit
  split
  · next h => exact .inr ⟨h, rfl⟩
  · next h => exact .inl ⟨h, rfl⟩

theorem appendBit_demOnly (v : Bool) (s : State) : DemOnly s (appendBit v s) := by
  rcases appendBit_cases v s with ⟨_, h⟩ | ⟨_, h⟩ <;> rw [h]
  · exact storeBit_demOnly v s
  · exact (storeBit_demOnly v s).trans (byteComplete_demOnly _ _)

theorem abortFrame_demOnly (s : State) : DemOnly s (abortFrame s) := by
  unfold abortFrame
  refine DemOnly.trans ?_ (frameReset_demOnly _)
  refine DemOnly.trans ?_ (note_demOnly _ _)
  split
  · exact (decodeStep_decodeOnly _ .silent s).demOnly
  · exact DemOnly.rfl s

/-- The six outcomes of `BAS_PULSE`, with the condition of each (42_bit_assembler.md R170). -/
theorem basPulse_cases (p : Level) (d : Word) (s : State) :
    (s.nbits = 0 ∧ classify s d = .sync ∧ basPulse p d s = countSync s) ∨
    (∃ v, s.nbits = 0 ∧ p = .mark ∧ dataBit (classify s d) = some v ∧
      s.syncMin.toNat < s.syncCnt.toNat ∧ basPulse p d s = appendBit v s) ∨
    (s.nbits = 0 ∧ classify s d ≠ .sync ∧
      (p = .space ∨ classify s d = .miss ∨ s.syncCnt.toNat ≤ s.syncMin.toNat) ∧
      basPulse p d s = resetSync s) ∨
    (s.nbits ≠ 0 ∧ p = .space ∧ basPulse p d s = s) ∨
    (∃ v, s.nbits ≠ 0 ∧ p = .mark ∧ dataBit (classify s d) = some v ∧ basPulse p d s = appendBit v s) ∨
    (s.nbits ≠ 0 ∧ p = .mark ∧ (classify s d = .sync ∨ classify s d = .miss) ∧
      basPulse p d s = abortFrame s) := by
  by_cases hn : s.nbits = 0
  · unfold basPulse searchPulse
    rw [if_pos hn]
    cases hc : classify s d <;> cases p <;> simp [hn, dataBit]
    all_goals by_cases hs : s.syncMin.toNat < s.syncCnt.toNat <;> simp [hs]
    all_goals omega
  · unfold basPulse collectPulse
    rw [if_neg hn]
    have hn' : ¬ s.nbits = 0#7 := hn
    cases hc : classify s d <;> cases p <;> simp [hn', dataBit]

/-- A pulse writes only what `BAS_PULSE` may write (41_pulse_classifier.md R150, R170). -/
theorem basPulse_demOnly (p : Level) (d : Word) (s : State) : DemOnly s (basPulse p d s) := by
  rcases basPulse_cases p d s with ⟨_, _, h⟩ | ⟨v, _, _, _, _, h⟩ | ⟨_, _, _, h⟩ | ⟨_, _, h⟩ |
    ⟨v, _, _, _, h⟩ | ⟨_, _, _, h⟩ <;> rw [h]
  · exact countSync_demOnly s
  · exact appendBit_demOnly v s
  · exact resetSync_demOnly s
  · exact DemOnly.rfl s
  · exact appendBit_demOnly v s
  · exact abortFrame_demOnly s

/-- One more bit, where the seven bits of `nbits` hold it. -/
theorem storeBit_nbits_toNat (v : Bool) (s : State) (h : s.nbits.toNat < maxBits) :
    (storeBit v s).nbits.toNat = s.nbits.toNat + 1 := by
  unfold maxBits at h
  change (s.nbits + 1).toNat = _
  rw [BitVec.toNat_add, show (1 : BitVec 7).toNat = 1 from rfl]
  omega

/-- The other bytes of the frame keep their value. -/
theorem frameByte_storeBit_other (v : Bool) (s : State) (i : Nat) (h : i ≠ s.nbits.toNat / 8) :
    frameByte (storeBit v s) i = frameByte s i := by
  unfold frameByte storeBit
  simp [Vector.getElem?_setIfInBounds, Ne.symm h]

/-- The byte that takes the new bit. -/
theorem frameByte_storeBit_same (v : Bool) (s : State) (h : s.nbits.toNat < maxBits) :
    frameByte (storeBit v s) (s.nbits.toNat / 8) = frameByte s (s.nbits.toNat / 8) |||
      ((if v then 1#8 else 0#8) <<< (7 - s.nbits.toNat % 8)) := by
  have hi : s.nbits.toNat / 8 < 10 := by unfold maxBits at h; omega
  have : (storeBit v s).b = s.b.setIfInBounds (s.nbits.toNat / 8)
      (frameByte s (s.nbits.toNat / 8) ||| ((if v then 1#8 else 0#8) <<< (7 - s.nbits.toNat % 8))) := rfl
  rw [show frameByte (storeBit v s) (s.nbits.toNat / 8) = (storeBit v s).b[s.nbits.toNat / 8]?.getD 0 from rfl,
    this, Vector.getElem?_setIfInBounds]
  simp [hi]

/-- The bits of a byte with one bit, moved to its place. -/
theorem getLsbD_shiftBit (v : Bool) (j : Nat) (hj : j < 8) (i : Nat) :
    ((if v then 1#8 else 0#8) <<< j).getLsbD i = (v && decide (i = j)) := by
  cases v
  · simp
  · simp only [if_true, BitVec.getLsbD_shiftLeft, Bool.true_and]
    by_cases h : i = j
    · subst h; simp [hj]
    · by_cases h2 : i < j
      · simp [h, h2]
      · have : i - j ≠ 0 := by omega
        simp [h, BitVec.getLsbD_one]
        intros; omega

/-- Where the new bit goes (42_bit_assembler.md R174, 20_memory.md R64). -/
theorem frameBit_storeBit (v : Bool) (s : State) (h : s.nbits.toNat < maxBits) (k : Nat)
    (hk : k < maxBits) :
    frameBit (storeBit v s) k = (frameBit s k || (v && decide (k = s.nbits.toNat))) := by
  unfold maxBits at h hk
  unfold frameBit
  by_cases h8 : k / 8 = s.nbits.toNat / 8
  · rw [h8, frameByte_storeBit_same v s h, BitVec.getLsbD_or, getLsbD_shiftBit _ _ (by omega)]
    congr 2
    apply decide_eq_decide.2
    exact ⟨fun e => by omega, fun e => by rw [e]⟩
  · rw [frameByte_storeBit_other v s _ h8]
    have : k ≠ s.nbits.toNat := by rintro rfl; exact h8 rfl
    simp [this]

/-- Byte `i` of a prefix of the frame. -/
theorem framePrefix_getElem? (s : State) (n i : Nat) :
    (framePrefix s n)[i]? = if i < n then s.b[i]? else none := by
  unfold framePrefix
  rw [List.getElem?_take]
  split <;> simp

/-- A prefix below the byte of the new bit is unchanged: bits after byte `n` go only into `b[n]` and later
(42_bit_assembler.md R181). -/
theorem framePrefix_storeBit (v : Bool) (s : State) (n : Nat) (h : n ≤ s.nbits.toNat / 8) :
    framePrefix (storeBit v s) n = framePrefix s n := by
  apply List.ext_getElem?
  intro i
  rw [framePrefix_getElem?, framePrefix_getElem?]
  split
  · next hi =>
    have hne : s.nbits.toNat / 8 ≠ i := by omega
    unfold storeBit
    simp [Vector.getElem?_setIfInBounds, hne]
  · rfl

theorem framePrefix_eq_of_b {s t : State} (h : t.b = s.b) (n : Nat) : framePrefix t n = framePrefix s n := by
  unfold framePrefix; rw [h]

theorem frameBit_eq_of_b {s t : State} (h : t.b = s.b) (k : Nat) : frameBit t k = frameBit s k := by
  unfold frameBit frameByte; rw [h]

end Sys2Proof.Machine
end

