-- ==== Sys2Proof/Laws/Decode.lean ====
section
/-! SUPPORT. The fields of a stimulus word built from its parts, the word rebuilt from its fields, and the
decoder on each kind of word. -/

namespace Sys2Proof

theorem stimKind_append (k : BitVec 4) (z : BitVec 15) (o : BitVec 13) (d : Word) :
    stimKind (k ++ z ++ o ++ d) = k := by
  unfold stimKind
  apply BitVec.eq_of_getLsbD_eq
  intro i hi
  rw [BitVec.getLsbD_extractLsb, BitVec.getLsbD_append, BitVec.getLsbD_append, BitVec.getLsbD_append]
  simp [show ¬ 60 + i < 32 by omega, show ¬ 60 + i - 32 < 13 by omega,
    show ¬ 60 + i - 32 - 13 < 15 by omega, show 60 + i - 32 - 13 - 15 = i by omega, show i < 4 by omega]

theorem stimZero_append (k : BitVec 4) (z : BitVec 15) (o : BitVec 13) (d : Word) :
    stimZero (k ++ z ++ o ++ d) = z := by
  unfold stimZero
  apply BitVec.eq_of_getLsbD_eq
  intro i hi
  rw [BitVec.getLsbD_extractLsb, BitVec.getLsbD_append, BitVec.getLsbD_append, BitVec.getLsbD_append]
  simp [show ¬ 45 + i < 32 by omega, show ¬ 45 + i - 32 < 13 by omega,
    show 45 + i - 32 - 13 < 15 by omega, show 45 + i - 32 - 13 = i by omega, show i < 15 by omega]

theorem stimOff_append (k : BitVec 4) (z : BitVec 15) (o : BitVec 13) (d : Word) :
    stimOff (k ++ z ++ o ++ d) = o := by
  unfold stimOff
  apply BitVec.eq_of_getLsbD_eq
  intro i hi
  rw [BitVec.getLsbD_extractLsb, BitVec.getLsbD_append, BitVec.getLsbD_append, BitVec.getLsbD_append]
  simp [show 32 + i - 32 < 13 by omega, show 32 + i - 32 = i by omega, show i < 13 by omega]

theorem stimData_append (k : BitVec 4) (z : BitVec 15) (o : BitVec 13) (d : Word) :
    stimData (k ++ z ++ o ++ d) = d := by
  unfold stimData
  apply BitVec.eq_of_getLsbD_eq
  intro i hi
  rw [BitVec.getLsbD_extractLsb, BitVec.getLsbD_append, BitVec.getLsbD_append, BitVec.getLsbD_append]
  simp [show i < 32 by omega, show i ≤ 31 by omega]

/-- The bit of `KIND` that tells the reserved kinds 8 to 15. -/
theorem getLsbD_63 (w : StimWord) : w.getLsbD 63 = (stimKind w).getLsbD 3 := by
  simp [stimKind]

/-- A stimulus word is its four fields (30_encoding.md R101). -/
theorem stim_fields (w : StimWord) : stimKind w ++ stimZero w ++ stimOff w ++ stimData w = w := by
  unfold stimKind stimZero stimOff stimData
  apply BitVec.eq_of_getLsbD_eq
  intro i hi
  rw [BitVec.getLsbD_append, BitVec.getLsbD_append, BitVec.getLsbD_append, BitVec.getLsbD_extractLsb,
    BitVec.getLsbD_extractLsb, BitVec.getLsbD_extractLsb, BitVec.getLsbD_extractLsb]
  by_cases h0 : i < 32
  · simp [h0, show i ≤ 31 by omega]
  · by_cases h1 : i - 32 < 13
    · simp [h0, h1, show i - 32 ≤ 12 by omega, show 32 + (i - 32) = i by omega]
    · by_cases h2 : i - 32 - 13 < 15
      · simp [h0, h1, h2, show i - 32 - 13 ≤ 14 by omega, show 45 + (i - 32 - 13) = i by omega]
      · simp [h0, h1, h2, show i - 32 - 13 - 15 ≤ 3 by omega,
          show 60 + (i - 32 - 13 - 15) = i by omega, show i - 32 - 13 - 15 < 4 by omega]

/-- Words that agree in their four fields are equal. -/
theorem stim_ext {w w' : StimWord} (hk : stimKind w = stimKind w') (hz : stimZero w = stimZero w')
    (ho : stimOff w = stimOff w') (hd : stimData w = stimData w') : w = w' := by
  rw [← stim_fields w, ← stim_fields w', hk, hz, ho, hd]

theorem decodeStimulus_tick {w : StimWord} (hk : stimKind w = 0) : decodeStimulus w = decodeTick w := by
  unfold decodeStimulus; rw [getLsbD_63, hk]; rfl

theorem decodeStimulus_edge {w : StimWord} (hk : stimKind w = 1) : decodeStimulus w = decodeEdge w := by
  unfold decodeStimulus; rw [getLsbD_63, hk]; rfl

theorem decodeStimulus_consume {w : StimWord} (hk : stimKind w = 2) :
    decodeStimulus w = decodePlain .consume w := by
  unfold decodeStimulus; rw [getLsbD_63, hk]; rfl

theorem decodeStimulus_read {w : StimWord} (hk : stimKind w = 3) : decodeStimulus w = decodeRead w := by
  unfold decodeStimulus; rw [getLsbD_63, hk]; rfl

theorem decodeStimulus_write {w : StimWord} (hk : stimKind w = 4) : decodeStimulus w = decodeWrite w := by
  unfold decodeStimulus; rw [getLsbD_63, hk]; rfl

theorem decodeStimulus_hwReset {w : StimWord} (hk : stimKind w = 5) :
    decodeStimulus w = decodePlain .hwReset w := by
  unfold decodeStimulus; rw [getLsbD_63, hk]; rfl

/-- An aligned read word with every other field 0 decodes to the row of its offset. -/
theorem decodeRead_aligned {w : StimWord} (h0 : (stimOff w).getLsbD 0 = false)
    (h1 : (stimOff w).getLsbD 1 = false) (hz : stimZero w = 0) (hd : stimData w = 0) :
    decodeRead w = .ok (readRow (stimOff w)) := by
  unfold decodeRead; rw [h0, h1, hz, hd]; rfl

/-- An aligned write word decodes to the row of its offset. -/
theorem decodeWrite_aligned {w : StimWord} (h0 : (stimOff w).getLsbD 0 = false)
    (h1 : (stimOff w).getLsbD 1 = false) (hz : stimZero w = 0) :
    decodeWrite w = .ok (writeRow (stimOff w) (stimData w)) := by
  unfold decodeWrite; rw [h0, h1, hz]; rfl

/-- The decoder on a read word of an aligned offset (30_encoding.md R101). -/
theorem decode_read (o : BitVec 13) (h0 : o.getLsbD 0 = false) (h1 : o.getLsbD 1 = false) :
    decode (stim 3 o 0) = .ok (readRow o) := by
  have hk := stimKind_append 3 0 o 0
  have hz := stimZero_append 3 0 o 0
  have ho := stimOff_append 3 0 o 0
  have hd := stimData_append 3 0 o 0
  change decodeStimulus _ = _
  generalize 3#4 ++ 0#15 ++ o ++ (0 : Word) = w at *
  rw [decodeStimulus_read hk, decodeRead_aligned (by rw [ho, h0]) (by rw [ho, h1]) hz hd, ho]

/-- The decoder on a write word of an aligned offset (30_encoding.md R101). -/
theorem decode_write (o : BitVec 13) (d : Word) (h0 : o.getLsbD 0 = false) (h1 : o.getLsbD 1 = false) :
    decode (stim 4 o d) = .ok (writeRow o d) := by
  have hk := stimKind_append 4 0 o d
  have hz := stimZero_append 4 0 o d
  have ho := stimOff_append 4 0 o d
  have hd := stimData_append 4 0 o d
  change decodeStimulus _ = _
  generalize 4#4 ++ 0#15 ++ o ++ d = w at *
  rw [decodeStimulus_write hk, decodeWrite_aligned (by rw [ho, h0]) (by rw [ho, h1]) hz, ho, hd]

end Sys2Proof
end

