-- ==== Sys2Proof/Laws/Memory.lean ====
section
/-! SUPPORT. The laws of the ring RAM: read after write, the canonical form, and the slots of the cursors. -/

namespace Sys2Proof.Machine

theorem Memory.wfFrom_mono {lo lo' : Nat} {m : Memory} (h : lo' ≤ lo) (hm : wfFrom lo m = true) :
    wfFrom lo' m = true := by
  cases m with
  | nil => rfl
  | cons c m =>
    simp only [wfFrom, Bool.and_eq_true, decide_eq_true_eq] at hm ⊢
    exact ⟨⟨by omega, hm.1.2⟩, hm.2⟩

/-- A slot below every listed one reads as an unlisted slot. -/
theorem Memory.read_of_lt {lo i : Nat} {m : Memory} (hm : wfFrom lo m = true) (h : i < lo) :
    read m i = unlisted := by
  induction m generalizing lo with
  | nil => rfl
  | cons c m ih =>
    simp only [wfFrom, Bool.and_eq_true, decide_eq_true_eq] at hm
    have hne : c.1 ≠ i := by omega
    simp only [read, hne, if_false]
    exact ih hm.2 (by omega)

theorem Memory.read_write_other {m : Memory} {i j : Nat} (v : Word) (h : j ≠ i) :
    read (write m i v) j = read m j := by
  have h' : i ≠ j := Ne.symm h
  induction m with
  | nil => unfold write; split <;> simp [read, h']
  | cons c m ih =>
    obtain ⟨k, w⟩ := c
    simp only [write]
    split
    · split <;> simp [read, h']
    · split
      · next hik => subst hik; split <;> simp [read, h']
      · simp [read, ih]

theorem Memory.read_write_same {lo : Nat} {m : Memory} (i : Nat) (v : Word) (hm : wfFrom lo m = true) :
    read (write m i v) i = v := by
  induction m generalizing lo with
  | nil => unfold write; split <;> simp_all [read]
  | cons c m ih =>
    obtain ⟨k, w⟩ := c
    simp only [wfFrom, Bool.and_eq_true, decide_eq_true_eq] at hm
    simp only [write]
    split
    · next hlt =>
      split
      · next hv =>
        have hne : k ≠ i := by omega
        simp only [read, hne, if_false, hv]
        exact read_of_lt hm.2 (by omega)
      · simp [read]
    · split
      · next hik =>
        split
        · next hv => rw [hv]; exact read_of_lt hm.2 (by omega)
        · simp [read]
      · next hne =>
        have hne' : k ≠ i := fun e => hne e.symm
        simp only [read, hne', if_false]
        exact ih hm.2

/-- What a write does to every slot, for a canonical ring. -/
theorem Memory.read_write {lo : Nat} {m : Memory} (i j : Nat) (v : Word) (hm : wfFrom lo m = true) :
    read (write m i v) j = if j = i then v else read m j := by
  split
  · next h => subst h; exact read_write_same j v hm
  · next h => exact read_write_other v h

theorem Memory.wfFrom_write {lo : Nat} {m : Memory} (i : Nat) (v : Word) (hi : lo ≤ i)
    (hm : wfFrom lo m = true) : wfFrom lo (write m i v) = true := by
  induction m generalizing lo with
  | nil => unfold write; split <;> simp_all [wfFrom]
  | cons c m ih =>
    obtain ⟨k, w⟩ := c
    simp only [wfFrom, Bool.and_eq_true, decide_eq_true_eq] at hm
    simp only [write]
    split
    · split
      · simpa [wfFrom] using hm
      · next hlt hv =>
        simp only [wfFrom, Bool.and_eq_true, decide_eq_true_eq, bne_iff_ne, ne_eq]
        exact ⟨⟨hi, hv⟩, ⟨⟨by omega, by simpa using hm.1.2⟩, hm.2⟩⟩
    · split
      · next hik =>
        subst hik
        split
        · exact wfFrom_mono (by omega) hm.2
        · next hv =>
          simp only [wfFrom, Bool.and_eq_true, decide_eq_true_eq, bne_iff_ne, ne_eq]
          exact ⟨⟨hi, hv⟩, hm.2⟩
      · simp only [wfFrom, Bool.and_eq_true, decide_eq_true_eq]
        exact ⟨hm.1, ih (by omega) hm.2⟩

/-- A write keeps the canonical form. -/
theorem Memory.wf_write {m : Memory} (i : Nat) (v : Word) (hm : wf m = true) : wf (write m i v) = true :=
  wfFrom_write i v (Nat.zero_le i) hm

/-- A write to an existing slot lists existing slots only. -/
theorem Memory.below_write {n : Nat} {m : Memory} (i : Nat) (v : Word) (hi : i < n)
    (hm : below n m = true) : below n (write m i v) = true := by
  unfold below at hm ⊢
  induction m with
  | nil => unfold write; split <;> simp [hi]
  | cons c m ih =>
    obtain ⟨k, w⟩ := c
    rw [List.all_cons, Bool.and_eq_true] at hm
    have hi' : decide (i < n) = true := by simpa using hi
    simp only [write]
    split
    · split <;> simp only [List.all_cons, hm.1, hm.2, hi', Bool.and_self]
    · split
      · split <;> simp only [List.all_cons, hm.2, hi', Bool.and_self]
      · rw [List.all_cons, hm.1, ih hm.2, Bool.and_self]

/-- The empty ring is canonical: the ring of reset. -/
theorem Memory.wf_nil : wf [] = true := rfl

/-- Canonical rings that read alike are equal. -/
theorem Memory.eq_of_read {lo : Nat} {m m' : Memory} (hm : wfFrom lo m = true) (hm' : wfFrom lo m' = true)
    (h : ∀ i, read m i = read m' i) : m = m' := by
  induction m generalizing lo m' with
  | nil =>
    cases m' with
    | nil => rfl
    | cons c m' =>
      exfalso
      have := h c.1
      simp only [wfFrom, Bool.and_eq_true, bne_iff_ne, ne_eq] at hm'
      simp only [read, if_true] at this
      exact hm'.1.2 this.symm
  | cons c m ih =>
    obtain ⟨k, w⟩ := c
    simp only [wfFrom, Bool.and_eq_true, decide_eq_true_eq, bne_iff_ne, ne_eq] at hm
    cases m' with
    | nil =>
      exfalso
      have := h k
      simp only [read, if_true] at this
      exact hm.1.2 this
    | cons c' m' =>
      obtain ⟨k', w'⟩ := c'
      simp only [wfFrom, Bool.and_eq_true, decide_eq_true_eq, bne_iff_ne, ne_eq] at hm'
      have hk : k = k' := by
        rcases Nat.lt_trichotomy k k' with hlt | heq | hgt
        · exfalso
          have := h k
          have hne : k' ≠ k := by omega
          simp only [read, if_true, hne, if_false] at this
          rw [read_of_lt hm'.2 (by omega)] at this
          exact hm.1.2 this
        · exact heq
        · exfalso
          have := h k'
          have hne : k ≠ k' := by omega
          simp only [read, if_true, hne, if_false] at this
          rw [read_of_lt hm.2 (by omega)] at this
          exact hm'.1.2 this.symm
      subst hk
      have hw : w = w' := by simpa [read] using h k
      subst hw
      have : m = m' := by
        refine ih hm.2 hm'.2 fun i => ?_
        by_cases hi : i = k
        · subst hi; rw [read_of_lt hm.2 (by omega), read_of_lt hm'.2 (by omega)]
        · have hne : k ≠ i := fun e => hi e.symm
          simpa [read, hne] using h i
      rw [this]

theorem ringSize_pos (p : Params) : 0 < p.ringSize := Nat.two_pow_pos _

/-- `RING_SIZE` is at least 2 (00_scope.md R10). -/
theorem two_le_ringSize (p : Params) : 2 ≤ p.ringSize := by
  unfold Params.ringSize Params.ringLog2
  calc 2 = 2 ^ 1 := rfl
    _ ≤ _ := Nat.pow_le_pow_right (by omega) (by omega)

/-- `RING_SIZE` is at most 1024, so a cursor fits its ten bits (00_scope.md R10). -/
theorem ringSize_le (p : Params) : p.ringSize ≤ 1024 := by
  unfold Params.ringSize Params.ringLog2
  have := p.ringLog2Pred.isLt
  calc _ ≤ 2 ^ 10 := Nat.pow_le_pow_right (by omega) (by omega)
    _ = 1024 := rfl

/-- `RING_SIZE` is even, which the level parity needs (40_edge_capture.md R137). -/
theorem ringSize_even (p : Params) : p.ringSize % 2 = 0 := by
  unfold Params.ringSize Params.ringLog2
  rw [Nat.pow_succ]; omega

theorem slotOf_lt (s : State) (c : BitVec 10) : slotOf s c < s.params.ringSize :=
  Nat.mod_lt _ (ringSize_pos _)

theorem slotOf_of_lt {s : State} {c : BitVec 10} (h : c.toNat < s.params.ringSize) :
    slotOf s c = c.toNat := Nat.mod_eq_of_lt h

/-- The next slot as a number. -/
theorem nextSlot_toNat (s : State) (c : BitVec 10) :
    (nextSlot s c).toNat = (c.toNat + 1) % s.params.ringSize := by
  unfold nextSlot
  have h1 := Nat.mod_lt (c.toNat + 1) (ringSize_pos s.params)
  have h2 := ringSize_le s.params
  rw [BitVec.toNat_ofNat, Nat.mod_eq_of_lt (by omega)]

theorem nextSlot_lt (s : State) (c : BitVec 10) : (nextSlot s c).toNat < s.params.ringSize := by
  rw [nextSlot_toNat]; exact Nat.mod_lt _ (ringSize_pos _)

theorem slotOf_nextSlot (s : State) (c : BitVec 10) : slotOf s (nextSlot s c) = (nextSlot s c).toNat :=
  slotOf_of_lt (nextSlot_lt s c)

/-- Consecutive slots expect opposite levels (10_state.md R27). -/
theorem slotLevel_nextSlot {s : State} {c : BitVec 10} (h : c.toNat < s.params.ringSize) :
    slotLevel (nextSlot s c) = !slotLevel c := by
  have he := ringSize_even s.params
  unfold slotLevel
  rw [← BitVec.testBit_toNat, ← BitVec.testBit_toNat, nextSlot_toNat, Nat.testBit_zero, Nat.testBit_zero]
  by_cases hl : c.toNat + 1 = s.params.ringSize
  · rw [hl, Nat.mod_self]
    have : c.toNat % 2 = 1 := by omega
    simp [this]
  · have hlt : c.toNat + 1 < s.params.ringSize := by omega
    rw [Nat.mod_eq_of_lt hlt]
    rcases Nat.mod_two_eq_zero_or_one c.toNat with h0 | h0
    · have : (c.toNat + 1) % 2 = 1 := by omega
      simp [this, h0]
    · have : (c.toNat + 1) % 2 = 0 := by omega
      simp [this, h0]

/-- What a ring write leaves in every slot (20_memory.md R61). -/
theorem read_ringWrite {s : State} (c : BitVec 10) (v : Word) (j : Nat) (h : Memory.wf s.ring = true) :
    Memory.read (ringWrite s c v).ring j = if j = slotOf s c then v else Memory.read s.ring j :=
  Memory.read_write _ _ _ h

end Sys2Proof.Machine
end

