-- ==== Sys2Proof/Laws/Edge.lean ====
section
/-! SUPPORT. The outcomes of `EDGE`, with the condition of each, and what it leaves alone. -/

namespace Sys2Proof.Machine

/-- The tests of an edge that finds room (40_edge_capture.md R130, tests 2 to 4). -/
theorem captureEdge_cases (lvl : Bool) (s : State) :
    ((edgeDelta s).toNat < s.filterUs.toNat ∧ captureEdge lvl s = { s with filt := true }) ∨
    (s.filterUs.toNat ≤ (edgeDelta s).toNat ∧ s.filt = true ∧ lvl = slotLevel s.wr ∧
      captureEdge lvl s = ringWrite { s with filt := false } s.wr s.ts) ∨
    (s.filterUs.toNat ≤ (edgeDelta s).toNat ∧ s.filt = true ∧ lvl ≠ slotLevel s.wr ∧
      captureEdge lvl s = normalWrite { s with filt := false } s.ts) ∨
    (s.filterUs.toNat ≤ (edgeDelta s).toNat ∧ s.filt = false ∧ lvl ≠ slotLevel (nextSlot s s.wr) ∧
      captureEdge lvl s = s) ∨
    (s.filterUs.toNat ≤ (edgeDelta s).toNat ∧ s.filt = false ∧ lvl = slotLevel (nextSlot s s.wr) ∧
      captureEdge lvl s = normalWrite s s.ts) := by
  unfold captureEdge resolveFiltered
  split
  · next h => exact .inl ⟨h, rfl⟩
  · next h =>
    have h' : s.filterUs.toNat ≤ (edgeDelta s).toNat := by omega
    split
    · next hf =>
      split
      · next hl => exact .inr (.inl ⟨h', hf, hl, rfl⟩)
      · next hl => exact .inr (.inr (.inl ⟨h', hf, hl, rfl⟩))
    · next hf =>
      rw [Bool.not_eq_true] at hf
      split
      · next hl => exact .inr (.inr (.inr (.inr ⟨h', hf, hl, rfl⟩)))
      · next hl => exact .inr (.inr (.inr (.inl ⟨h', hf, hl, rfl⟩)))

/-- The whole of `EDGE` (40_edge_capture.md R130): disabled, full, or the tests of an edge that finds
room, which ends any overflow episode. -/
theorem edgeStep_cases (lvl : Bool) (s : State) :
    (s.capEn = false ∧ edgeStep lvl s = s) ∨
    (s.capEn = true ∧ ringFull s = true ∧ s.ovfActive = true ∧ edgeStep lvl s = s) ∨
    (s.capEn = true ∧ ringFull s = true ∧ s.ovfActive = false ∧ edgeStep lvl s = startEpisode s) ∨
    (s.capEn = true ∧ ringFull s = false ∧
      edgeStep lvl s = captureEdge lvl { s with ovfActive := false }) := by
  unfold edgeStep
  cases s.capEn <;> cases ringFull s <;> cases s.ovfActive <;> simp

/-- `ring_full` as numbers (10_state.md R26). -/
theorem ringFull_iff (s : State) :
    ringFull s = true ↔ (s.wr.toNat + 1) % s.params.ringSize = s.rd.toNat := by
  unfold ringFull
  rw [beq_iff_eq, ← nextSlot_toNat]
  exact ⟨fun h => by rw [h], fun h => BitVec.eq_of_toNat_eq h⟩

/-- The expected level of a slot as a number (10_state.md R27). -/
theorem slotLevel_eq (c : BitVec 10) : slotLevel c = decide (c.toNat % 2 = 1) := by
  unfold slotLevel
  rw [← BitVec.testBit_toNat, Nat.testBit_zero]

/-- The time since the last stored edge, modulo 2^32 (40_edge_capture.md R132). -/
theorem edgeDelta_toNat (s : State) : (edgeDelta s).toNat =
    (s.ts.toNat + (2 ^ 32 - (Memory.read s.ring (s.wr.toNat % s.params.ringSize)).toNat)) % 2 ^ 32 := by
  unfold edgeDelta ringRead slotOf
  rw [BitVec.toNat_sub, Nat.add_comm]

/-- `EDGE` writes no state but its own (40_edge_capture.md R130, *Writes*, R138). -/
theorem edgeStep_frame (lvl : Bool) (s : State) : edgeStep lvl s =
    { s with
      ring := (edgeStep lvl s).ring
      wr := (edgeStep lvl s).wr
      filt := (edgeStep lvl s).filt
      ovfActive := (edgeStep lvl s).ovfActive
      ovf := (edgeStep lvl s).ovf
      ovfCount := (edgeStep lvl s).ovfCount
      events := (edgeStep lvl s).events } := by
  rcases edgeStep_cases lvl s with ⟨_, h⟩ | ⟨_, _, _, h⟩ | ⟨_, _, _, h⟩ | ⟨_, _, h⟩
  · rw [h]
  · rw [h]
  · rw [h]; rfl
  · rw [h]
    rcases captureEdge_cases lvl { s with ovfActive := false } with
      ⟨_, k⟩ | ⟨_, _, _, k⟩ | ⟨_, _, _, k⟩ | ⟨_, _, _, k⟩ | ⟨_, _, _, k⟩ <;> rw [k] <;> rfl

end Sys2Proof.Machine
end

