-- ==== Sys2Proof/Laws/Independence.lean ====
section
/-! SUPPORT. What a pulse in the bit assembler neither reads nor writes: the timer, the ring and its
cursors, `prev_ts`, the capture flags, the enables, `FILTER_US`, the read data and the stimuli. -/

namespace Sys2Proof.Machine

/-- `s` with the state that `BAS_PULSE` neither reads nor writes taken from `c`. -/
def withCap (s c : State) : State :=
  { s with
    ts := c.ts
    ring := c.ring
    wr := c.wr
    rd := c.rd
    filt := c.filt
    ovfActive := c.ovfActive
    ovf := c.ovf
    ovfCount := c.ovfCount
    prevTs := c.prevTs
    capEn := c.capEn
    demEn := c.demEn
    srcSel := c.srcSel
    ieRes := c.ieRes
    ieOvf := c.ieOvf
    filterUs := c.filterUs
    rdata := c.rdata
    stim := c.stim }

theorem validateAndAccept_withCap (f : Format) (bs : List Byte) (r : Rec) (m : Mode) (s c : State) :
    validateAndAccept f bs r m (withCap s c) =
      ((validateAndAccept f bs r m s).1, withCap (validateAndAccept f bs r m s).2 c) := by
  unfold validateAndAccept
  cases checksum bs <;> cases formatParity f bs <;> cases m <;> rfl

theorem tryRow_withCap (f : Format) (bs : List Byte) (m : Mode) (s c : State) :
    tryRow f bs m (withCap s c) = ((tryRow f bs m s).1, withCap (tryRow f bs m s).2 c) := by
  cases f
  case atlas =>
    simp only [tryRow]
    (repeat' split) <;> exact validateAndAccept_withCap _ _ _ _ _ _
  case iris =>
    simp only [tryRow]
    split <;> exact validateAndAccept_withCap _ _ _ _ _ _
  all_goals exact validateAndAccept_withCap _ _ _ _ _ _

theorem tryFormat_withCap (f : Format) (bs : List Byte) (m : Mode) (s c : State) :
    tryFormat f bs m (withCap s c) = ((tryFormat f bs m s).1, withCap (tryFormat f bs m s).2 c) := by
  unfold tryFormat
  split
  · exact tryRow_withCap f bs m s c
  · rfl

theorem tryFormats_withCap (bs : List Byte) (m : Mode) (fs : List Format) (s c : State) :
    tryFormats bs m fs (withCap s c) = ((tryFormats bs m fs s).1, withCap (tryFormats bs m fs s).2 c) := by
  induction fs generalizing s with
  | nil => rfl
  | cons f fs ih =>
    have h := tryFormat_withCap f bs m s c
    unfold tryFormats
    rw [h]
    cases hr : tryFormat f bs m s with
    | mk a t => cases a <;> simp only [ih]

theorem decodeStep_withCap (n : Nat) (m : Mode) (s c : State) :
    decodeStep n m (withCap s c) = ((decodeStep n m s).1, withCap (decodeStep n m s).2 c) := by
  have h : noteNoMatch (framePrefix s n) m (withCap s c) = withCap (noteNoMatch (framePrefix s n) m s) c := by
    unfold noteNoMatch
    split <;> rfl
  change tryFormats (framePrefix s n) m priority (noteNoMatch (framePrefix s n) m (withCap s c)) = _
  rw [h, tryFormats_withCap]
  rfl

theorem byteComplete_withCap (n : Nat) (s c : State) :
    byteComplete n (withCap s c) = withCap (byteComplete n s) c := by
  unfold byteComplete
  rw [decodeStep_withCap]
  cases h : decodeStep n .count s with
  | mk a t =>
    cases a
    · by_cases hn : n = maxBytes
      · simp only [hn, if_true]; rfl
      · simp only [hn, if_false]
    · rfl

theorem appendBit_withCap (v : Bool) (s c : State) :
    appendBit v (withCap s c) = withCap (appendBit v s) c := by
  have h : storeBit v (withCap s c) = withCap (storeBit v s) c := rfl
  have hn : (withCap (storeBit v s) c).nbits = (storeBit v s).nbits := rfl
  unfold appendBit
  rw [h, hn]
  split
  · exact byteComplete_withCap _ _ _
  · rfl

theorem abortFrame_withCap (s c : State) : abortFrame (withCap s c) = withCap (abortFrame s) c := by
  have hn : (withCap s c).nbits = s.nbits := rfl
  unfold abortFrame
  rw [hn, decodeStep_withCap]
  split <;> rfl

theorem resetSync_withCap (s c : State) : resetSync (withCap s c) = withCap (resetSync s) c := by
  have hn : (withCap s c).syncCnt = s.syncCnt := rfl
  unfold resetSync
  rw [hn]
  split <;> rfl

/-- A pulse does the same whatever the rest of the block holds (41_pulse_classifier.md R157,
40_edge_capture.md R142). -/
theorem basPulse_withCap (p : Level) (d : Word) (s c : State) :
    basPulse p d (withCap s c) = withCap (basPulse p d s) c := by
  have hn : (withCap s c).nbits = s.nbits := rfl
  have hc : classify (withCap s c) d = classify s d := rfl
  have hy : (withCap s c).syncMin.toNat < (withCap s c).syncCnt.toNat ↔
      s.syncMin.toNat < s.syncCnt.toNat := Iff.rfl
  unfold basPulse
  rw [hn, hc]
  split
  · unfold searchPulse
    split
    · rfl
    · split
      · simp only [hy]
        split
        · exact appendBit_withCap _ _ _
        · exact resetSync_withCap _ _
      · exact resetSync_withCap _ _
      · exact resetSync_withCap _ _
  · unfold collectPulse
    split
    · rfl
    · exact appendBit_withCap _ _ _
    · exact abortFrame_withCap _ _

end Sys2Proof.Machine
end

