-- ==== Sys2Proof/Laws/PerInstr.lean ====
section
/-! SUPPORT. Every operation's encoding matches the row of opcode_table.json it stands for, one lemma per
constructor (30_encoding.md R103). -/

namespace Sys2Proof.Laws.TableRow

open Sys2Proof.Machine

/-- The code the encoder writes for a well-formed operation matches its row's mask and match. -/
def Statement (i : Instr) : Prop := WellFormed i = true → rowHits i (encode i) = true

/-- A row that masks every bit of `DATA` away. -/
theorem hits_high (r : StimRow) (x d H : BitVec 32) (hm : r.mask = H ++ 0#32)
    (hp : r.pat = (x &&& H) ++ 0#32) : r.hits (x ++ d) = true := by
  unfold StimRow.hits
  rw [hm, hp, BitVec.and_append, BitVec.and_zero]
  exact beq_self_eq_true _

/-- A row matches a word whose bits agree with the pattern under the mask. -/
theorem hits_bits (r : StimRow) (w : StimWord)
    (h : ∀ j, j < 64 → (w.getLsbD j && r.mask.getLsbD j) = r.pat.getLsbD j) : r.hits w = true := by
  unfold StimRow.hits
  rw [beq_iff_eq]
  apply BitVec.eq_of_getLsbD_eq
  intro j hj
  rw [BitVec.getLsbD_and]
  exact h j hj

/-- A frame of the row's length whose `MTYPE` is the row's code. -/
theorem hits_frame {r : FrameRow} {len : Nat} {code : BitVec 6} {bs : List Byte} (hl : r.len = len)
    (hm : r.mask = 0x3F) (hp : r.pat = 0#2 ++ code) (h : packetShape len code bs = true) :
    r.hits bs = true := by
  unfold packetShape at h
  simp only [Bool.and_eq_true, beq_iff_eq] at h
  unfold FrameRow.hits
  rw [hl, hm, hp, h.1, ← h.2]
  generalize bs.getD 2 0 = x
  simp only [beq_self_eq_true, Bool.true_and, beq_iff_eq]
  apply BitVec.eq_of_getLsbD_eq
  intro j hj
  rw [BitVec.getLsbD_and, BitVec.getLsbD_append, BitVec.getLsbD_extractLsb]
  interval_cases j <;> simp


theorem refusedRdMisalignedBit0 (rest : BitVec 27) (data : Word) : Statement (.refusedRdMisalignedBit0 rest data) := by
  intro _
  refine hits_bits _ _ fun j hj => ?_
  erw [BitVec.getLsbD_append, BitVec.getLsbD_append, BitVec.getLsbD_append]
  interval_cases j <;> simp [BitVec.getLsbD_append]

theorem refusedRdMisalignedBit1 (rest : BitVec 26) (data : Word) : Statement (.refusedRdMisalignedBit1 rest data) := by
  intro _
  refine hits_bits _ _ fun j hj => ?_
  erw [BitVec.getLsbD_append, BitVec.getLsbD_append, BitVec.getLsbD_append, BitVec.getLsbD_append]
  interval_cases j <;> simp [BitVec.getLsbD_append]

theorem refusedWrMisalignedBit0 (rest : BitVec 27) (data : Word) : Statement (.refusedWrMisalignedBit0 rest data) := by
  intro _
  refine hits_bits _ _ fun j hj => ?_
  erw [BitVec.getLsbD_append, BitVec.getLsbD_append, BitVec.getLsbD_append]
  interval_cases j <;> simp [BitVec.getLsbD_append]

theorem refusedWrMisalignedBit1 (rest : BitVec 26) (data : Word) : Statement (.refusedWrMisalignedBit1 rest data) := by
  intro _
  refine hits_bits _ _ fun j hj => ?_
  erw [BitVec.getLsbD_append, BitVec.getLsbD_append, BitVec.getLsbD_append, BitVec.getLsbD_append]
  interval_cases j <;> simp [BitVec.getLsbD_append]

theorem refusedKind6to7 (rest : BitVec 61) : Statement (.refusedKind6to7 rest) := by
  intro _
  refine hits_bits _ _ fun j hj => ?_
  erw [BitVec.getLsbD_append]
  interval_cases j <;> simp [BitVec.getLsbD_append]

theorem refusedKind8to15 (rest : BitVec 63) : Statement (.refusedKind8to15 rest) := by
  intro _
  refine hits_bits _ _ fun j hj => ?_
  erw [BitVec.getLsbD_append]
  interval_cases j <;> simp [BitVec.getLsbD_append]

theorem tick (k : Word) : Statement (.tick k) := fun _ =>
  hits_high ⟨0xFFFFFFFF00000000, 0x0000000000000000⟩ (0#4 ++ 0#15 ++ 0#13) k 0xFFFFFFFF (by decide) (by decide)

theorem edge (lvl : Bool) : Statement (.edge lvl) := by
  intro _; cases lvl <;> decide

theorem consume : Statement .consume := by
  intro _; decide

theorem hwReset : Statement .hwReset := by
  intro _; decide

theorem rdId : Statement .rdId := by
  intro _; decide

theorem rdCtrl : Statement .rdCtrl := by
  intro _; decide

theorem rdStatus : Statement .rdStatus := by
  intro _; decide

theorem rdRingPtr : Statement .rdRingPtr := by
  intro _; decide

theorem rdFilterUs : Statement .rdFilterUs := by
  intro _; decide

theorem rdSyncUs : Statement .rdSyncUs := by
  intro _; decide

theorem rdZeroUs : Statement .rdZeroUs := by
  intro _; decide

theorem rdOneUs : Statement .rdOneUs := by
  intro _; decide

theorem rdTolUs : Statement .rdTolUs := by
  intro _; decide

theorem rdSyncMin : Statement .rdSyncMin := by
  intro _; decide

theorem rdTimer : Statement .rdTimer := by
  intro _; decide

theorem rdPulseIn : Statement .rdPulseIn := by
  intro _; decide

theorem rdDemod : Statement .rdDemod := by
  intro _; decide

theorem rdPrevTs : Statement .rdPrevTs := by
  intro _; decide

theorem rdOvfCount : Statement .rdOvfCount := by
  intro _; decide

theorem rdCsumErrCount : Statement .rdCsumErrCount := by
  intro _; decide

theorem rdParErrCount : Statement .rdParErrCount := by
  intro _; decide

theorem rdFrameOkCount : Statement .rdFrameOkCount := by
  intro _; decide

theorem rdResSeq : Statement .rdResSeq := by
  intro _; decide

theorem rdRes0 : Statement .rdRes0 := by
  intro _; decide

theorem rdRes1 : Statement .rdRes1 := by
  intro _; decide

theorem rdRes2 : Statement .rdRes2 := by
  intro _; decide

theorem rdRes3 : Statement .rdRes3 := by
  intro _; decide

theorem rdRes4 : Statement .rdRes4 := by
  intro _; decide

theorem rdRes5 : Statement .rdRes5 := by
  intro _; decide

theorem rdFrame0 : Statement .rdFrame0 := by
  intro _; decide

theorem rdFrame1 : Statement .rdFrame1 := by
  intro _; decide

theorem rdFrame2 : Statement .rdFrame2 := by
  intro _; decide

theorem rdRingData (i : BitVec 10) : Statement (.rdRingData i) := by
  intro _
  refine hits_bits _ _ fun j hj => ?_
  erw [BitVec.getLsbD_append, BitVec.getLsbD_append, BitVec.getLsbD_append, BitVec.getLsbD_append]
  interval_cases j <;> simp [BitVec.getLsbD_append]

theorem rdReserved (off : BitVec 13) : Statement (.rdReserved off) := by
  intro h
  have h' : off.extractLsb 1 0 = 0#2 := by
    simp only [WellFormed, reservedOffset, Bool.and_eq_true, beq_iff_eq] at h
    exact h.1.1
  have h0 : off.getLsbD 0 = false := by
    have := congrArg (fun x : BitVec 2 => x.getLsbD 0) h'
    simpa using this
  have h1 : off.getLsbD 1 = false := by
    have := congrArg (fun x : BitVec 2 => x.getLsbD 1) h'
    simpa using this
  refine hits_bits _ _ fun j hj => ?_
  rw [BitVec.getLsbD_append, BitVec.getLsbD_append]
  interval_cases j <;> simp [BitVec.getLsbD_append, BitVec.getElem_append] <;> first | exact h0 | exact h1

theorem wrId (v : Word) : Statement (.wrId v) := fun _ =>
  hits_high ⟨0xFFFFFFFF00000000, 0x4000000000000000⟩ (4#4 ++ 0#15 ++ 0x000#13) v 0xFFFFFFFF (by decide) (by decide)

theorem wrCtrl (v : Word) : Statement (.wrCtrl v) := fun _ =>
  hits_high ⟨0xFFFFFFFF00000000, 0x4000000400000000⟩ (4#4 ++ 0#15 ++ 0x004#13) v 0xFFFFFFFF (by decide) (by decide)

theorem wrStatus (v : Word) : Statement (.wrStatus v) := fun _ =>
  hits_high ⟨0xFFFFFFFF00000000, 0x4000000800000000⟩ (4#4 ++ 0#15 ++ 0x008#13) v 0xFFFFFFFF (by decide) (by decide)

theorem wrRingPtr (v : Word) : Statement (.wrRingPtr v) := fun _ =>
  hits_high ⟨0xFFFFFFFF00000000, 0x4000000C00000000⟩ (4#4 ++ 0#15 ++ 0x00C#13) v 0xFFFFFFFF (by decide) (by decide)

theorem wrFilterUs (v : Word) : Statement (.wrFilterUs v) := fun _ =>
  hits_high ⟨0xFFFFFFFF00000000, 0x4000001000000000⟩ (4#4 ++ 0#15 ++ 0x010#13) v 0xFFFFFFFF (by decide) (by decide)

theorem wrSyncUs (v : Word) : Statement (.wrSyncUs v) := fun _ =>
  hits_high ⟨0xFFFFFFFF00000000, 0x4000001400000000⟩ (4#4 ++ 0#15 ++ 0x014#13) v 0xFFFFFFFF (by decide) (by decide)

theorem wrZeroUs (v : Word) : Statement (.wrZeroUs v) := fun _ =>
  hits_high ⟨0xFFFFFFFF00000000, 0x4000001800000000⟩ (4#4 ++ 0#15 ++ 0x018#13) v 0xFFFFFFFF (by decide) (by decide)

theorem wrOneUs (v : Word) : Statement (.wrOneUs v) := fun _ =>
  hits_high ⟨0xFFFFFFFF00000000, 0x4000001C00000000⟩ (4#4 ++ 0#15 ++ 0x01C#13) v 0xFFFFFFFF (by decide) (by decide)

theorem wrTolUs (v : Word) : Statement (.wrTolUs v) := fun _ =>
  hits_high ⟨0xFFFFFFFF00000000, 0x4000002000000000⟩ (4#4 ++ 0#15 ++ 0x020#13) v 0xFFFFFFFF (by decide) (by decide)

theorem wrSyncMin (v : Word) : Statement (.wrSyncMin v) := fun _ =>
  hits_high ⟨0xFFFFFFFF00000000, 0x4000002400000000⟩ (4#4 ++ 0#15 ++ 0x024#13) v 0xFFFFFFFF (by decide) (by decide)

theorem wrTimer (v : Word) : Statement (.wrTimer v) := fun _ =>
  hits_high ⟨0xFFFFFFFF00000000, 0x4000002800000000⟩ (4#4 ++ 0#15 ++ 0x028#13) v 0xFFFFFFFF (by decide) (by decide)

theorem wrPulseIn (v : Word) : Statement (.wrPulseIn v) := fun _ =>
  hits_high ⟨0xFFFFFFFF00000000, 0x4000002C00000000⟩ (4#4 ++ 0#15 ++ 0x02C#13) v 0xFFFFFFFF (by decide) (by decide)

theorem wrDemod (v : Word) : Statement (.wrDemod v) := fun _ =>
  hits_high ⟨0xFFFFFFFF00000000, 0x4000003000000000⟩ (4#4 ++ 0#15 ++ 0x030#13) v 0xFFFFFFFF (by decide) (by decide)

theorem wrPrevTs (v : Word) : Statement (.wrPrevTs v) := fun _ =>
  hits_high ⟨0xFFFFFFFF00000000, 0x4000003400000000⟩ (4#4 ++ 0#15 ++ 0x034#13) v 0xFFFFFFFF (by decide) (by decide)

theorem wrOvfCount (v : Word) : Statement (.wrOvfCount v) := fun _ =>
  hits_high ⟨0xFFFFFFFF00000000, 0x4000004000000000⟩ (4#4 ++ 0#15 ++ 0x040#13) v 0xFFFFFFFF (by decide) (by decide)

theorem wrCsumErrCount (v : Word) : Statement (.wrCsumErrCount v) := fun _ =>
  hits_high ⟨0xFFFFFFFF00000000, 0x4000004400000000⟩ (4#4 ++ 0#15 ++ 0x044#13) v 0xFFFFFFFF (by decide) (by decide)

theorem wrParErrCount (v : Word) : Statement (.wrParErrCount v) := fun _ =>
  hits_high ⟨0xFFFFFFFF00000000, 0x4000004800000000⟩ (4#4 ++ 0#15 ++ 0x048#13) v 0xFFFFFFFF (by decide) (by decide)

theorem wrFrameOkCount (v : Word) : Statement (.wrFrameOkCount v) := fun _ =>
  hits_high ⟨0xFFFFFFFF00000000, 0x4000004C00000000⟩ (4#4 ++ 0#15 ++ 0x04C#13) v 0xFFFFFFFF (by decide) (by decide)

theorem wrResSeq (v : Word) : Statement (.wrResSeq v) := fun _ =>
  hits_high ⟨0xFFFFFFFF00000000, 0x4000005000000000⟩ (4#4 ++ 0#15 ++ 0x050#13) v 0xFFFFFFFF (by decide) (by decide)

theorem wrRes0 (v : Word) : Statement (.wrRes0 v) := fun _ =>
  hits_high ⟨0xFFFFFFFF00000000, 0x4000006000000000⟩ (4#4 ++ 0#15 ++ 0x060#13) v 0xFFFFFFFF (by decide) (by decide)

theorem wrRes1 (v : Word) : Statement (.wrRes1 v) := fun _ =>
  hits_high ⟨0xFFFFFFFF00000000, 0x4000006400000000⟩ (4#4 ++ 0#15 ++ 0x064#13) v 0xFFFFFFFF (by decide) (by decide)

theorem wrRes2 (v : Word) : Statement (.wrRes2 v) := fun _ =>
  hits_high ⟨0xFFFFFFFF00000000, 0x4000006800000000⟩ (4#4 ++ 0#15 ++ 0x068#13) v 0xFFFFFFFF (by decide) (by decide)

theorem wrRes3 (v : Word) : Statement (.wrRes3 v) := fun _ =>
  hits_high ⟨0xFFFFFFFF00000000, 0x4000006C00000000⟩ (4#4 ++ 0#15 ++ 0x06C#13) v 0xFFFFFFFF (by decide) (by decide)

theorem wrRes4 (v : Word) : Statement (.wrRes4 v) := fun _ =>
  hits_high ⟨0xFFFFFFFF00000000, 0x4000007000000000⟩ (4#4 ++ 0#15 ++ 0x070#13) v 0xFFFFFFFF (by decide) (by decide)

theorem wrRes5 (v : Word) : Statement (.wrRes5 v) := fun _ =>
  hits_high ⟨0xFFFFFFFF00000000, 0x4000007400000000⟩ (4#4 ++ 0#15 ++ 0x074#13) v 0xFFFFFFFF (by decide) (by decide)

theorem wrFrame0 (v : Word) : Statement (.wrFrame0 v) := fun _ =>
  hits_high ⟨0xFFFFFFFF00000000, 0x4000008000000000⟩ (4#4 ++ 0#15 ++ 0x080#13) v 0xFFFFFFFF (by decide) (by decide)

theorem wrFrame1 (v : Word) : Statement (.wrFrame1 v) := fun _ =>
  hits_high ⟨0xFFFFFFFF00000000, 0x4000008400000000⟩ (4#4 ++ 0#15 ++ 0x084#13) v 0xFFFFFFFF (by decide) (by decide)

theorem wrFrame2 (v : Word) : Statement (.wrFrame2 v) := fun _ =>
  hits_high ⟨0xFFFFFFFF00000000, 0x4000008800000000⟩ (4#4 ++ 0#15 ++ 0x088#13) v 0xFFFFFFFF (by decide) (by decide)

theorem wrRingData (i : BitVec 10) (v : Word) : Statement (.wrRingData i v) := by
  intro _
  refine hits_bits _ _ fun j hj => ?_
  erw [BitVec.getLsbD_append, BitVec.getLsbD_append, BitVec.getLsbD_append, BitVec.getLsbD_append]
  interval_cases j <;> simp [BitVec.getLsbD_append]

theorem wrReserved (off : BitVec 13) (v : Word) : Statement (.wrReserved off v) := by
  intro h
  have h' : off.extractLsb 1 0 = 0#2 := by
    simp only [WellFormed, reservedOffset, Bool.and_eq_true, beq_iff_eq] at h
    exact h.1.1
  have h0 : off.getLsbD 0 = false := by
    have := congrArg (fun x : BitVec 2 => x.getLsbD 0) h'
    simpa using this
  have h1 : off.getLsbD 1 = false := by
    have := congrArg (fun x : BitVec 2 => x.getLsbD 1) h'
    simpa using this
  refine hits_bits _ _ fun j hj => ?_
  rw [BitVec.getLsbD_append, BitVec.getLsbD_append]
  interval_cases j <;> simp [BitVec.getLsbD_append, BitVec.getElem_append] <;> first | exact h0 | exact h1

theorem pktTower (bs : List Byte) : Statement (.pktTower bs) := fun h => hits_frame rfl rfl rfl h

theorem pktRain (bs : List Byte) : Statement (.pktRain bs) := fun h => hits_frame rfl rfl rfl h

theorem pktLtng (bs : List Byte) : Statement (.pktLtng bs) := fun h => hits_frame rfl rfl rfl h

theorem pktAtlas05 (bs : List Byte) : Statement (.pktAtlas05 bs) := fun h => hits_frame rfl rfl rfl h

theorem pktAtlas06 (bs : List Byte) : Statement (.pktAtlas06 bs) := fun h => hits_frame rfl rfl rfl h

theorem pktAtlas07 (bs : List Byte) : Statement (.pktAtlas07 bs) := fun h => hits_frame rfl rfl rfl h

theorem pktAtlas25 (bs : List Byte) : Statement (.pktAtlas25 bs) := fun h => hits_frame rfl rfl rfl h

theorem pktAtlas26 (bs : List Byte) : Statement (.pktAtlas26 bs) := fun h => hits_frame rfl rfl rfl h

theorem pktAtlas27 (bs : List Byte) : Statement (.pktAtlas27 bs) := fun h => hits_frame rfl rfl rfl h

theorem pktNotos (bs : List Byte) : Statement (.pktNotos bs) := fun h => hits_frame rfl rfl rfl h

theorem pktIris31 (bs : List Byte) : Statement (.pktIris31 bs) := fun h => hits_frame rfl rfl rfl h

theorem pktIris38 (bs : List Byte) : Statement (.pktIris38 bs) := fun h => hits_frame rfl rfl rfl h

end Sys2Proof.Laws.TableRow
end

