-- ==== Sys2Proof/Machine/Physical.lean ====
section
/-! DEFINITION. The physical values that the raw fields of a record name, as exact rationals
(44_decoders.md R220, R221), and the floating-point temperature of a downstream converter (R220). No step of the block computes one (92_eei_decisions.md D43; log entry 18). -/

namespace Sys2Proof.Machine

/-- The temperature in °C of a format that carries one (44_decoders.md R220). -/
def celsius (f : Format) (raw : BitVec 12) : Option Rat :=
  match f with
  | .tower => some (((raw.toNat : Rat) - 1000) / 10)
  | .lightning => some (((raw.toNat : Rat) - 1000) / 10)
  | .atlas => some (((raw.toNat : Rat) - 1800) / 18)
  | .notos => some (((raw.toNat : Rat) - 1800) / 18)
  | .iris => some (((raw.toNat : Rat) - 720) / 18)
  | .rain => none

/-- The offset of the formats whose temperature the source converts from tenths of °F
(44_decoders.md R220). -/
def fahrenheitOffset (f : Format) : Option Nat :=
  match f with
  | .atlas => some 1800
  | .notos => some 1800
  | .iris => some 720
  | .tower => none
  | .rain => none
  | .lightning => none

/-- The radix of a floating-point format. -/
def radixOf (m : FloatFormat) : Nat := m.radixPred + 2

/-- A rational to an integer, in the direction of the format (log entry 18). -/
def roundInt (r : Rounding) (y : Rat) : Int :=
  match r with
  | .tiesToEven =>
    if y - y.floor < 1 / 2 then y.floor
    else if 1 / 2 < y - y.floor then y.floor + 1
    else if y.floor % 2 = 0 then y.floor else y.floor + 1
  | .tiesToAway =>
    if y - y.floor < 1 / 2 then y.floor
    else if 1 / 2 < y - y.floor then y.floor + 1
    else if 0 ≤ y then y.floor + 1 else y.floor
  | .towardZero => if 0 ≤ y then y.floor else y.ceil
  | .towardPositive => y.ceil
  | .towardNegative => y.floor

/-- The weight of the last digit of `x`: that of its own exponent, and from the least normal number
down that of `minExp` (log entry 18). -/
def lastDigit (m : FloatFormat) (x : Rat) : Rat :=
  (radixOf m : Rat) ^ (max (Int.log (radixOf m) |x|) m.minExp - (m.digitsPred : Int))

/-- The number of the format that stands for `x`; none where it would leave the exponent range, and no
finite value is claimed (log entry 18). -/
def roundTo (m : FloatFormat) (x : Rat) : Option Rat :=
  let y := (roundInt m.rounding (x / lastDigit m x) : Rat) * lastDigit m x
  if |y| < (radixOf m : Rat) ^ (m.minExp + (m.expSpan : Int) + 1) then some y else none

/-- `((raw - offset) * 0.1) * 5 / 9` left to right in a floating-point format, every operand and every
result a number of the format (44_decoders.md R220). -/
def evalCelsius (m : FloatFormat) (raw offset : Nat) : Option Rat := do
  let a ← roundTo m raw
  let b ← roundTo m offset
  let d ← roundTo m (a - b)
  let tenth ← roundTo m (1 / 10)
  let fahrenheit ← roundTo m (d * tenth)
  let five ← roundTo m 5
  let nine ← roundTo m 9
  let t ← roundTo m (fahrenheit * five)
  roundTo m (t / nine)

/-- The source's floating-point temperature in °C, as a downstream converter reproduces it in
`TEMP_FLOAT_FORMAT`; only the formats that the source converts from tenths of °F have one
(44_decoders.md R220). -/
def sourceCelsius (f : Format) (raw : BitVec 12) : Option Rat :=
  match fahrenheitOffset f with
  | some offset => evalCelsius Config.tempFloatFormat raw.toNat offset
  | none => none

/-- The wind speed of a format that carries one, by its OPEN scale (44_decoders.md R221). -/
def windSpeed (f : Format) (raw : BitVec 8) : Option Rat :=
  match f with
  | .notos => some (raw.toNat * Config.notosWindScale)
  | .atlas => some (raw.toNat * Config.atlasWindScale)
  | .iris => some (raw.toNat * Config.irisWindScale)
  | .tower => none
  | .rain => none
  | .lightning => none

/-- The rainfall of a format that carries a tip count: 0.254 mm a tip for Rain, an OPEN scale for Atlas
and Iris (44_decoders.md R221). -/
def rainfall (f : Format) (tips : BitVec 21) : Option Rat :=
  match f with
  | .rain => some (tips.toNat * (254 / 1000))
  | .atlas => some (tips.toNat * Config.atlasRainScale)
  | .iris => some (tips.toNat * Config.irisRainScale)
  | .tower => none
  | .lightning => none
  | .notos => none

/-- The wind direction in degrees (44_decoders.md R221). -/
def windDegrees (d10 : BitVec 14) : Rat := d10.toNat / 10

/-- The light level in lux (44_decoders.md R221). -/
def lux (raw : BitVec 14) : Nat := raw.toNat * 10

/-- The reference reading of the battery bit: 1 is OK (44_decoders.md R221). -/
def batteryOk (batt : BitVec 1) : Bool := batt == 1

end Sys2Proof.Machine
end

