-- ==== Sys2Proof/Laws/Physical.lean ====
section
/-! SUPPORT. What rounding to a floating-point format can do (44_decoders.md R220). -/

namespace Sys2Proof.Machine

/-- An integer needs no rounding, in any direction. -/
@[simp] theorem roundInt_intCast (r : Rounding) (n : Int) : roundInt r (n : Rat) = n := by
  cases r <;> simp [roundInt]

/-- A rounded value is a whole number of last digits, and lies within the exponent range. -/
theorem roundTo_some {m : FloatFormat} {x y : Rat} (h : roundTo m x = some y) :
    (∃ n : Int, y = n * lastDigit m x) ∧
      |y| < (radixOf m : Rat) ^ (m.minExp + (m.expSpan : Int) + 1) := by
  simp only [roundTo] at h
  split at h
  · next hlt =>
    obtain rfl := Option.some.inj h
    exact ⟨⟨_, rfl⟩, hlt⟩
  · cases h

/-- A value whose last digits fit stands for itself, within the exponent range. -/
theorem roundTo_exact {m : FloatFormat} {x : Rat} {n : Int} (hx : x = n * lastDigit m x)
    (hlt : |x| < (radixOf m : Rat) ^ (m.minExp + (m.expSpan : Int) + 1)) : roundTo m x = some x := by
  have hd : lastDigit m x ≠ 0 := by
    unfold lastDigit radixOf
    positivity
  have hn : x / lastDigit m x = n := by
    rw [div_eq_iff hd]
    exact hx
  simp only [roundTo, hn, roundInt_intCast]
  rw [← hx, if_pos hlt]

/-- Zero is a number of every format. -/
@[simp] theorem roundTo_zero (m : FloatFormat) : roundTo m 0 = some 0 := by
  refine roundTo_exact (n := 0) (by simp) ?_
  unfold radixOf
  rw [abs_zero]
  positivity

end Sys2Proof.Machine
end

