-- ==== Sys2Proof/Laws/Record.lean ====
section
/-! SUPPORT. The six words of a record as numbers: each field times the weight of its lowest bit
(30_encoding.md R112). -/

namespace Sys2Proof.Machine

/-- A concatenation as a number. -/
theorem toNat_append_add {m n : Nat} (x : BitVec m) (y : BitVec n) :
    (x ++ y).toNat = x.toNat * 2 ^ n + y.toNat := by
  rw [BitVec.toNat_append, Nat.shiftLeft_eq, Nat.mul_comm, Nat.two_pow_add_eq_or_of_lt y.isLt]

/-- A bit slice as a number. -/
theorem toNat_extractLsb_eq {n : Nat} (x : BitVec n) (hi lo : Nat) :
    (x.extractLsb hi lo).toNat = x.toNat / 2 ^ lo % 2 ^ (hi - lo + 1) := by
  rw [BitVec.extractLsb_toNat, Nat.shiftRight_eq_div_pow]

theorem recWords_w0 (r : Rec) : (recWords r).w0.toNat =
    r.fmt.toNat + 2 ^ 4 * r.mtype.toNat + 2 ^ 10 * r.chCode.toNat + 2 ^ 12 * r.chChar.toNat +
      2 ^ 20 * r.batt.toNat + 2 ^ 21 * r.len.toNat := by
  have e : (recWords r).w0 = 0#7 ++ r.len ++ r.batt ++ r.chChar ++ r.chCode ++ r.mtype ++ r.fmt := rfl
  rw [e]
  simp only [toNat_append_add]
  simp only [BitVec.toNat_ofNat]
  omega

theorem recWords_w1 (r : Rec) : (recWords r).w1.toNat =
    r.addr.toNat + 2 ^ 14 * r.hum.toNat + 2 ^ 21 * r.present.toNat + 2 ^ 28 * r.rfi.toNat := by
  have e : (recWords r).w1 = 0#3 ++ r.rfi ++ r.present ++ r.hum ++ r.addr := rfl
  rw [e]
  simp only [toNat_append_add]
  simp only [BitVec.toNat_ofNat]
  omega

theorem recWords_w2 (r : Rec) : (recWords r).w2.toNat =
    r.tempRaw.toNat + 2 ^ 12 * r.wspdRaw.toNat + 2 ^ 20 * r.strikes.toNat := by
  have e : (recWords r).w2 = 0#4 ++ r.strikes ++ r.wspdRaw ++ r.tempRaw := rfl
  rw [e]
  simp only [toNat_append_add]
  simp only [BitVec.toNat_ofNat]
  omega

theorem recWords_w3 (r : Rec) : (recWords r).w3.toNat =
    r.rainCnt.toNat + 2 ^ 21 * r.distIdx.toNat + 2 ^ 26 * r.distKm.toNat := by
  have e : (recWords r).w3 = r.distKm ++ r.distIdx ++ r.rainCnt := rfl
  rw [e]
  simp only [toNat_append_add]
  omega

theorem recWords_w4 (r : Rec) : (recWords r).w4.toNat =
    r.wdirRaw.toNat + 2 ^ 10 * r.wdirD10.toNat + 2 ^ 24 * r.uv.toNat := by
  have e : (recWords r).w4 = 0#4 ++ r.uv ++ r.wdirD10 ++ r.wdirRaw := rfl
  rw [e]
  simp only [toNat_append_add]
  simp only [BitVec.toNat_ofNat]
  omega

theorem recWords_w5 (r : Rec) : (recWords r).w5.toNat = r.luxRaw.toNat := by
  have e : (recWords r).w5 = 0#18 ++ r.luxRaw := rfl
  rw [e]
  simp only [toNat_append_add]
  simp only [BitVec.toNat_ofNat]
  omega

/-- A record with no field of `RES2` has the word 0 there; likewise below. -/
theorem recWords_w2_zero (r : Rec) (h : r.tempRaw = 0) (h1 : r.wspdRaw = 0) (h2 : r.strikes = 0) :
    (recWords r).w2 = 0 := by
  have e : (recWords r).w2 = 0#4 ++ r.strikes ++ r.wspdRaw ++ r.tempRaw := rfl
  rw [e, h, h1, h2]; rfl

theorem recWords_w3_zero (r : Rec) (h : r.rainCnt = 0) (h1 : r.distIdx = 0) (h2 : r.distKm = 0) :
    (recWords r).w3 = 0 := by
  have e : (recWords r).w3 = r.distKm ++ r.distIdx ++ r.rainCnt := rfl
  rw [e, h, h1, h2]; rfl

theorem recWords_w4_zero (r : Rec) (h : r.uv = 0) (h1 : r.wdirD10 = 0) (h2 : r.wdirRaw = 0) :
    (recWords r).w4 = 0 := by
  have e : (recWords r).w4 = 0#4 ++ r.uv ++ r.wdirD10 ++ r.wdirRaw := rfl
  rw [e, h, h1, h2]; rfl

theorem recWords_w5_zero (r : Rec) (h : r.luxRaw = 0) : (recWords r).w5 = 0 := by
  have e : (recWords r).w5 = 0#18 ++ r.luxRaw := rfl
  rw [e, h]; rfl

end Sys2Proof.Machine
end

