-- ==== Sys2Proof/Laws/Step.lean ====
section
/-! SUPPORT. Everything one operation can do, and everything one step can do, each said once. -/

namespace Sys2Proof.Machine

/-- Everything an operation can do where it answers a next state: `Effect i s t` lists, for operation `i`
on `s`, the shapes of the answer `t`. -/
inductive Effect : Instr → State → State → Prop where
  | tick (k : Word) (s : State) : Effect (.tick k) s { s with ts := s.ts + k }
  | edge (lvl : Bool) (s : State) : Effect (.edge lvl) s (edgeStep lvl s)
  | consume (s : State) (h : consumeEnabled s = true) :
      Effect .consume s
        (basPulse (endedLevel (nextSlot s s.rd)) (consumedTs s - s.prevTs) (takeEntry s))
  | hwReset (s : State) : Effect .hwReset s (hardwareReset s)
  | read (i : Instr) (s : State) (v : Word) (h : 10 ≤ rowNumber i ∧ rowNumber i ≤ 39) :
      Effect i s (reply s v)
  | ignored (i : Instr) (s : State) (h : 40 ≤ rowNumber i ∧ rowNumber i ≤ 69) : Effect i s s
  | ctrl (v : Word) (s : State) (h : v.getLsbD 31 = false) : Effect (.wrCtrl v) s (setCtrl s v)
  | softReset (v : Word) (s : State) (h : v.getLsbD 31 = true) :
      Effect (.wrCtrl v) s (softReset (setCtrl s v))
  | status (v : Word) (s : State) : Effect (.wrStatus v) s
      { s with ovf := s.ovf && !v.getLsbD 0, resNew := s.resNew && !v.getLsbD 1 }
  | filterUs (v : Word) (s : State) : Effect (.wrFilterUs v) s { s with filterUs := timingField v }
  | syncUs (v : Word) (s : State) : Effect (.wrSyncUs v) s { s with syncUs := timingField v }
  | zeroUs (v : Word) (s : State) : Effect (.wrZeroUs v) s { s with zeroUs := timingField v }
  | oneUs (v : Word) (s : State) : Effect (.wrOneUs v) s { s with oneUs := timingField v }
  | tolUs (v : Word) (s : State) : Effect (.wrTolUs v) s { s with tolUs := timingField v }
  | syncMin (v : Word) (s : State) : Effect (.wrSyncMin v) s { s with syncMin := v.extractLsb 7 0 }
  | ovfCount (v : Word) (s : State) : Effect (.wrOvfCount v) s { s with ovfCount := 0 }
  | csumErrCount (v : Word) (s : State) : Effect (.wrCsumErrCount v) s { s with csumErrCount := 0 }
  | parErrCount (v : Word) (s : State) : Effect (.wrParErrCount v) s { s with parErrCount := 0 }
  | frameOkCount (v : Word) (s : State) : Effect (.wrFrameOkCount v) s { s with frameOkCount := 0 }
  | pulse (v : Word) (s : State) (p : Level) (d : Word) (h : pulseInEnabled s = true)
      (hv : signedPulse v = some (p, d)) : Effect (.wrPulseIn v) s (basPulse p d s)
  | packet (i : Instr) (s : State) (f : Format) (bs : List Byte) (r : Rec) (h : 70 ≤ rowNumber i) :
      Effect i s (validateAndAccept f bs r .count s).2

/-- An operation that answers a next state has one of the listed effects. -/
theorem exec_effect {i : Instr} {s t : State} (h : exec i s = .next t) : Effect i s t := by
  cases i
  case consume =>
    simp only [exec, execConsume] at h
    split at h
    · next hc => cases h; exact .consume s hc
    · cases h
  case wrCtrl v =>
    simp only [exec, execWrCtrl] at h
    split at h
    · next hv => cases h; exact .softReset v s hv
    · next hv => cases h; exact .ctrl v s (by simpa using hv)
  case wrPulseIn v =>
    simp only [exec, execWrPulseIn] at h
    split at h
    · next hp =>
      split at h
      · cases h; exact .ignored _ _ ⟨Nat.le_of_ble_eq_true rfl, Nat.le_of_ble_eq_true rfl⟩
      · next p d hv => cases h; exact .pulse v s p d hp hv
    · cases h; exact .ignored _ _ ⟨Nat.le_of_ble_eq_true rfl, Nat.le_of_ble_eq_true rfl⟩
  all_goals first
    | (cases h; done)
    | (cases h; exact .tick _ _)
    | (cases h; exact .edge _ _)
    | (cases h; exact .hwReset _)
    | (cases h; exact .status _ _)
    | (cases h; exact .filterUs _ _)
    | (cases h; exact .syncUs _ _)
    | (cases h; exact .zeroUs _ _)
    | (cases h; exact .oneUs _ _)
    | (cases h; exact .tolUs _ _)
    | (cases h; exact .syncMin _ _)
    | (cases h; exact .ovfCount _ _)
    | (cases h; exact .csumErrCount _ _)
    | (cases h; exact .parErrCount _ _)
    | (cases h; exact .frameOkCount _ _)
    | (cases h; exact .read _ _ _ ⟨Nat.le_of_ble_eq_true rfl, Nat.le_of_ble_eq_true rfl⟩)
    | (cases h; exact .ignored _ _ ⟨Nat.le_of_ble_eq_true rfl, Nat.le_of_ble_eq_true rfl⟩)
    | (cases h; exact .packet _ _ _ _ _ (Nat.le_of_ble_eq_true rfl))

/-- Everything one step can do where it answers a next state (30_encoding.md R101, R103). -/
theorem step_cases {s t : State} (h : step s = .next t) :
    (s.stim = [] ∧ t = s) ∨
    ∃ w rest i, s.stim = w :: rest ∧ decode (.stimulus w) = .ok i ∧
      exec i (beginStep s rest) = .next t := by
  unfold step at h
  split at h
  · next hs => exact .inl ⟨hs, by cases h; rfl⟩
  · next w rest hs =>
    split at h
    · next i hd => exact .inr ⟨w, rest, i, hs, hd, h⟩
    · cases h

/-- A step ends in a next state or in a refusal; it never faults (60_exceptions.md R290). -/
theorem step_next_or_refused (s : State) : (∃ t, step s = .next t) ∨ (∃ r, step s = .refused r) := by
  cases h : step s with
  | next t => exact .inl ⟨t, rfl⟩
  | fault r => cases r
  | refused r => exact .inr ⟨r, rfl⟩

end Sys2Proof.Machine
end

