-- ==== Sys2Proof/Machine/Assembler.lean ====
section
/-! DEFINITION. The pseudo-instructions of the stimulus language and their expansions into operations
(30_encoding.md R102). The durations are the nominal ones (R81). -/

namespace Sys2Proof.Machine

/-- `PULSE d`, `d` a signed duration: `WR PULSE_IN, d`. -/
def asmPulse (d : Int) : List Instr := [.wrPulseIn (BitVec.ofInt 32 d)]

/-- `MARK m`. -/
def asmMark (m : Word) : List Instr := [.edge true, .tick m, .edge false]

/-- `SPACE s`: the line stays at 0. -/
def asmSpace (s : Word) : List Instr := [.tick s]

/-- `SYNC n`. -/
def asmSync (n : Nat) : List Instr := (List.replicate n (asmMark 600 ++ asmSpace 600)).flatten

/-- One bit of `BITS`. -/
def asmBit (v : Bool) : List Instr :=
  if v then asmMark 400 ++ asmSpace 200 else asmMark 200 ++ asmSpace 400

/-- The bits of some bytes, MSB first. -/
def bitsOf (bs : List Byte) : List Bool :=
  bs.flatMap (fun x => [7, 6, 5, 4, 3, 2, 1, 0].map (fun i => x.getLsbD i))

/-- `BITS x`, `x` given as bytes. -/
def asmBits (bs : List Byte) : List Instr := (bitsOf bs).flatMap asmBit

/-- `SPULSE m`. -/
def asmSPulse (m : Nat) : List Instr := asmPulse m

/-- `SSPACE s`. -/
def asmSSpace (s : Nat) : List Instr := asmPulse (-s)

/-- `SSYNC n`. -/
def asmSSync (n : Nat) : List Instr := (List.replicate n (asmSPulse 600 ++ asmSSpace 600)).flatten

/-- One bit of `SBITS`. -/
def asmSBit (v : Bool) : List Instr :=
  if v then asmSPulse 400 ++ asmSSpace 200 else asmSPulse 200 ++ asmSSpace 400

/-- `SBITS x`, `x` given as bytes. -/
def asmSBits (bs : List Byte) : List Instr := (bitsOf bs).flatMap asmSBit

/-- `DRAIN` from a state: a `CONSUME` for each unconsumed entry while `DEM_EN = 1` and `SRC_SEL = 0`. -/
def asmDrain (s : State) : List Instr :=
  if s.demEn && !s.srcSel then List.replicate (ringCount s) .consume else []

/-- The stimulus words of some operations; a packet row is no stimulus. -/
def stimulusWords (is : List Instr) : List StimWord :=
  is.filterMap (fun i => match encode i with
    | .stimulus w => some w
    | .frame _ => none)

end Sys2Proof.Machine
end

