-- ==== Sys2Proof/Tests/Slice0.lean ====
section
/-! SUPPORT. Tests of one step each. Words are written out from the encodings of 30_encoding.md R101 and
opcode_table.json, frames and results from 95_test_vectors.md; the vector is named at each test. The last
part has a state and operands for each statement's hypotheses. -/

namespace Sys2Proof.Tests

open Sys2Proof Sys2Proof.Machine

/-- The parameters of 95_test_vectors.md: `RING_LOG2 = 4`, the reference `CH_LUT_B`; every `LDIST_ROM` entry 9. -/
def prm : Params := ⟨3, chLutBReference, Vector.replicate 32 7⟩

/-- The same with `RING_LOG2 = 1`. -/
def prm1 : Params := ⟨0, chLutBReference, Vector.replicate 32 0⟩

/-- Right after reset. -/
def idle : State := State.resetWith prm

/-- Right after reset with two slots and room for one edge. -/
def idle1 : State := State.resetWith prm1

/-- With the capture unit on: `WR CTRL, 1`. -/
def cap : State := { idle with capEn := true }

/-- With the pulses of `PULSE_IN`: `WR CTRL, 6`. -/
def pin : State := { idle with demEn := true, srcSel := true }

/-- With the pulses of the ring: `WR CTRL, 3`. -/
def dem : State := { idle with capEn := true, demEn := true }

/-- `pin` with `n` bits of the frame `bs` received after four sync pulses. -/
def collecting (bs : List Byte) (n : BitVec 7) : State :=
  { pin with syncCnt := 4, nbits := n, b := frameBuffer bs }

/-- Two edges stored, the second the current one (EC-5's end state). -/
def twoEdges : State := { dem with ts := 1500, ring := [(1, 1000), (2, 1500)], wr := 2 }

/-- A full ring of two slots. -/
def full1 : State := { idle1 with capEn := true, ts := 2000, ring := [(1, 1000)], wr := 1 }

/-- The outcome is a next state, and it satisfies `p`. -/
def ends (o : Result) (p : State → Bool) : Bool :=
  match o with
  | .next t => p t
  | _ => false

/-! Well-formedness refuses an ill-formed term. -/

theorem test_wf_reserved_misaligned : WellFormed (.rdReserved 0x03A) = false := by decide
theorem test_wf_reserved_in_window : WellFormed (.wrReserved 0x1040 0) = false := by decide
theorem test_wf_reserved_named : WellFormed (.rdReserved 0x008) = false := by decide
theorem test_wf_reserved_ok : WellFormed (.rdReserved 0x038) = true := by decide
theorem test_wf_tower_length : WellFormed (.pktTower [0, 0, 0x04, 0, 0, 0]) = false := by decide
theorem test_wf_rain_code : WellFormed (.pktRain [0, 0, 0x31, 0, 0, 0, 0, 0]) = false := by decide
theorem test_wf_ltng_length : WellFormed (.pktLtng [0, 0, 0x2F, 0, 0, 0, 0, 0]) = false := by decide
theorem test_wf_atlas05_code : WellFormed (.pktAtlas05 [0, 0, 0x25, 0, 0, 0, 0, 0, 0, 0]) = false := by decide
theorem test_wf_atlas06_length : WellFormed (.pktAtlas06 [0, 0, 0x06, 0, 0, 0, 0, 0, 0]) = false := by decide
theorem test_wf_atlas07_code : WellFormed (.pktAtlas07 [0, 0, 0x27, 0, 0, 0, 0, 0, 0, 0]) = false := by decide
theorem test_wf_atlas25_code : WellFormed (.pktAtlas25 [0, 0, 0x05, 0, 0, 0, 0, 0, 0, 0]) = false := by decide
theorem test_wf_atlas26_code : WellFormed (.pktAtlas26 [0, 0, 0x06, 0, 0, 0, 0, 0, 0, 0]) = false := by decide
theorem test_wf_atlas27_length : WellFormed (.pktAtlas27 [0, 0, 0x27]) = false := by decide
theorem test_wf_notos_code : WellFormed (.pktNotos [0, 0, 0x30, 0, 0, 0, 0, 0]) = false := by decide
theorem test_wf_iris31_code : WellFormed (.pktIris31 [0, 0, 0x38, 0, 0, 0, 0, 0]) = false := by decide
theorem test_wf_iris38_length : WellFormed (.pktIris38 [0, 0, 0x38]) = false := by decide

/-! Decoding, one word or frame for each constructor. -/

theorem test_decode_refusedRdMisalignedBit0 : decode (.stimulus 0x3000000700000000) = .ok (.refusedRdMisalignedBit0 3 0) := by decide
theorem test_decode_refusedRdMisalignedBit1 : decode (.stimulus 0x3000000600000000) = .ok (.refusedRdMisalignedBit1 1 0) := by decide
theorem test_decode_refusedWrMisalignedBit0 : decode (.stimulus 0x4000000100000009) = .ok (.refusedWrMisalignedBit0 0 9) := by decide
theorem test_decode_refusedWrMisalignedBit1 : decode (.stimulus 0x4000000200000009) = .ok (.refusedWrMisalignedBit1 0 9) := by decide
theorem test_decode_refusedKind6to7 : decode (.stimulus 0x6000000000000000) = .ok (.refusedKind6to7 0) := by decide
theorem test_decode_refusedKind8to15 : decode (.stimulus 0xF000000000000001) = .ok (.refusedKind8to15 0x7000000000000001) := by decide
theorem test_decode_tick : decode (.stimulus 0x0000000000002710) = .ok (.tick 10000) := by decide
theorem test_decode_edge : decode (.stimulus 0x1000000000000001) = .ok (.edge true) := by decide
theorem test_decode_consume : decode (.stimulus 0x2000000000000000) = .ok (.consume) := by decide
theorem test_decode_hwReset : decode (.stimulus 0x5000000000000000) = .ok (.hwReset) := by decide
theorem test_decode_rdId : decode (.stimulus 0x3000000000000000) = .ok (.rdId) := by decide
theorem test_decode_rdCtrl : decode (.stimulus 0x3000000400000000) = .ok (.rdCtrl) := by decide
theorem test_decode_rdStatus : decode (.stimulus 0x3000000800000000) = .ok (.rdStatus) := by decide
theorem test_decode_rdRingPtr : decode (.stimulus 0x3000000C00000000) = .ok (.rdRingPtr) := by decide
theorem test_decode_rdFilterUs : decode (.stimulus 0x3000001000000000) = .ok (.rdFilterUs) := by decide
theorem test_decode_rdSyncUs : decode (.stimulus 0x3000001400000000) = .ok (.rdSyncUs) := by decide
theorem test_decode_rdZeroUs : decode (.stimulus 0x3000001800000000) = .ok (.rdZeroUs) := by decide
theorem test_decode_rdOneUs : decode (.stimulus 0x3000001C00000000) = .ok (.rdOneUs) := by decide
theorem test_decode_rdTolUs : decode (.stimulus 0x3000002000000000) = .ok (.rdTolUs) := by decide
theorem test_decode_rdSyncMin : decode (.stimulus 0x3000002400000000) = .ok (.rdSyncMin) := by decide
theorem test_decode_rdTimer : decode (.stimulus 0x3000002800000000) = .ok (.rdTimer) := by decide
theorem test_decode_rdPulseIn : decode (.stimulus 0x3000002C00000000) = .ok (.rdPulseIn) := by decide
theorem test_decode_rdDemod : decode (.stimulus 0x3000003000000000) = .ok (.rdDemod) := by decide
theorem test_decode_rdPrevTs : decode (.stimulus 0x3000003400000000) = .ok (.rdPrevTs) := by decide
theorem test_decode_rdOvfCount : decode (.stimulus 0x3000004000000000) = .ok (.rdOvfCount) := by decide
theorem test_decode_rdCsumErrCount : decode (.stimulus 0x3000004400000000) = .ok (.rdCsumErrCount) := by decide
theorem test_decode_rdParErrCount : decode (.stimulus 0x3000004800000000) = .ok (.rdParErrCount) := by decide
theorem test_decode_rdFrameOkCount : decode (.stimulus 0x3000004C00000000) = .ok (.rdFrameOkCount) := by decide
theorem test_decode_rdResSeq : decode (.stimulus 0x3000005000000000) = .ok (.rdResSeq) := by decide
theorem test_decode_rdRes0 : decode (.stimulus 0x3000006000000000) = .ok (.rdRes0) := by decide
theorem test_decode_rdRes1 : decode (.stimulus 0x3000006400000000) = .ok (.rdRes1) := by decide
theorem test_decode_rdRes2 : decode (.stimulus 0x3000006800000000) = .ok (.rdRes2) := by decide
theorem test_decode_rdRes3 : decode (.stimulus 0x3000006C00000000) = .ok (.rdRes3) := by decide
theorem test_decode_rdRes4 : decode (.stimulus 0x3000007000000000) = .ok (.rdRes4) := by decide
theorem test_decode_rdRes5 : decode (.stimulus 0x3000007400000000) = .ok (.rdRes5) := by decide
theorem test_decode_rdFrame0 : decode (.stimulus 0x3000008000000000) = .ok (.rdFrame0) := by decide
theorem test_decode_rdFrame1 : decode (.stimulus 0x3000008400000000) = .ok (.rdFrame1) := by decide
theorem test_decode_rdFrame2 : decode (.stimulus 0x3000008800000000) = .ok (.rdFrame2) := by decide
theorem test_decode_rdRingData : decode (.stimulus 0x3000104000000000) = .ok (.rdRingData 16) := by decide
theorem test_decode_rdReserved : decode (.stimulus 0x3000003800000000) = .ok (.rdReserved 0x038) := by decide
theorem test_decode_wrId : decode (.stimulus 0x4000000080000003) = .ok (.wrId 0x80000003) := by decide
theorem test_decode_wrCtrl : decode (.stimulus 0x4000000480000003) = .ok (.wrCtrl 0x80000003) := by decide
theorem test_decode_wrStatus : decode (.stimulus 0x4000000880000003) = .ok (.wrStatus 0x80000003) := by decide
theorem test_decode_wrRingPtr : decode (.stimulus 0x4000000C80000003) = .ok (.wrRingPtr 0x80000003) := by decide
theorem test_decode_wrFilterUs : decode (.stimulus 0x4000001080000003) = .ok (.wrFilterUs 0x80000003) := by decide
theorem test_decode_wrSyncUs : decode (.stimulus 0x4000001480000003) = .ok (.wrSyncUs 0x80000003) := by decide
theorem test_decode_wrZeroUs : decode (.stimulus 0x4000001880000003) = .ok (.wrZeroUs 0x80000003) := by decide
theorem test_decode_wrOneUs : decode (.stimulus 0x4000001C80000003) = .ok (.wrOneUs 0x80000003) := by decide
theorem test_decode_wrTolUs : decode (.stimulus 0x4000002080000003) = .ok (.wrTolUs 0x80000003) := by decide
theorem test_decode_wrSyncMin : decode (.stimulus 0x4000002480000003) = .ok (.wrSyncMin 0x80000003) := by decide
theorem test_decode_wrTimer : decode (.stimulus 0x4000002880000003) = .ok (.wrTimer 0x80000003) := by decide
theorem test_decode_wrPulseIn : decode (.stimulus 0x4000002CFFFFFDA8) = .ok (.wrPulseIn 0xFFFFFDA8) := by decide
theorem test_decode_wrDemod : decode (.stimulus 0x4000003080000003) = .ok (.wrDemod 0x80000003) := by decide
theorem test_decode_wrPrevTs : decode (.stimulus 0x4000003480000003) = .ok (.wrPrevTs 0x80000003) := by decide
theorem test_decode_wrOvfCount : decode (.stimulus 0x4000004080000003) = .ok (.wrOvfCount 0x80000003) := by decide
theorem test_decode_wrCsumErrCount : decode (.stimulus 0x4000004480000003) = .ok (.wrCsumErrCount 0x80000003) := by decide
theorem test_decode_wrParErrCount : decode (.stimulus 0x4000004880000003) = .ok (.wrParErrCount 0x80000003) := by decide
theorem test_decode_wrFrameOkCount : decode (.stimulus 0x4000004C80000003) = .ok (.wrFrameOkCount 0x80000003) := by decide
theorem test_decode_wrResSeq : decode (.stimulus 0x4000005080000003) = .ok (.wrResSeq 0x80000003) := by decide
theorem test_decode_wrRes0 : decode (.stimulus 0x4000006080000003) = .ok (.wrRes0 0x80000003) := by decide
theorem test_decode_wrRes1 : decode (.stimulus 0x4000006480000003) = .ok (.wrRes1 0x80000003) := by decide
theorem test_decode_wrRes2 : decode (.stimulus 0x4000006880000003) = .ok (.wrRes2 0x80000003) := by decide
theorem test_decode_wrRes3 : decode (.stimulus 0x4000006C80000003) = .ok (.wrRes3 0x80000003) := by decide
theorem test_decode_wrRes4 : decode (.stimulus 0x4000007080000003) = .ok (.wrRes4 0x80000003) := by decide
theorem test_decode_wrRes5 : decode (.stimulus 0x4000007480000003) = .ok (.wrRes5 0x80000003) := by decide
theorem test_decode_wrFrame0 : decode (.stimulus 0x4000008080000003) = .ok (.wrFrame0 0x80000003) := by decide
theorem test_decode_wrFrame1 : decode (.stimulus 0x4000008480000003) = .ok (.wrFrame1 0x80000003) := by decide
theorem test_decode_wrFrame2 : decode (.stimulus 0x4000008880000003) = .ok (.wrFrame2 0x80000003) := by decide
theorem test_decode_wrRingData : decode (.stimulus 0x40001FFC00000007) = .ok (.wrRingData 1023 7) := by decide
theorem test_decode_wrReserved : decode (.stimulus 0x4000003800000007) = .ok (.wrReserved 0x038 7) := by decide
theorem test_decode_pktTower : decode (.frame [0xC1, 0x23, 0x84, 0x3A, 0x27, 0xDE, 0xA7]) = .ok (.pktTower [0xC1, 0x23, 0x84, 0x3A, 0x27, 0xDE, 0xA7]) := by decide
theorem test_decode_pktRain : decode (.frame [0x01, 0xAB, 0xF0, 0x00, 0x00, 0x60, 0x39, 0x35]) = .ok (.pktRain [0x01, 0xAB, 0xF0, 0x00, 0x00, 0x60, 0x39, 0x35]) := by decide
theorem test_decode_pktLtng : decode (.frame [0xCA, 0xBC, 0x6F, 0x2D, 0x09, 0xE2, 0x12, 0xC5, 0xE4]) = .ok (.pktLtng [0xCA, 0xBC, 0x6F, 0x2D, 0x09, 0xE2, 0x12, 0xC5, 0xE4]) := by decide
theorem test_decode_pktAtlas05 : decode (.frame [0xC2, 0xA5, 0xC5, 0xB2, 0x11, 0xCA, 0xB7, 0x00, 0x00, 0x70]) = .ok (.pktAtlas05 [0xC2, 0xA5, 0xC5, 0xB2, 0x11, 0xCA, 0xB7, 0x00, 0x00, 0x70]) := by decide
theorem test_decode_pktAtlas06 : decode (.frame [0xC1, 0x00, 0xC6, 0xE4, 0x82, 0xE8, 0x11, 0x00, 0x00, 0xE6]) = .ok (.pktAtlas06 [0xC1, 0x00, 0xC6, 0xE4, 0x82, 0xE8, 0x11, 0x00, 0x00, 0xE6]) := by decide
theorem test_decode_pktAtlas07 : decode (.frame [0x02, 0xA5, 0x47, 0x81, 0x47, 0x27, 0x88, 0x00, 0x00, 0x65]) = .ok (.pktAtlas07 [0x02, 0xA5, 0x47, 0x81, 0x47, 0x27, 0x88, 0x00, 0x00, 0x65]) := by decide
theorem test_decode_pktAtlas25 : decode (.frame [0xC0, 0x10, 0x65, 0x05, 0x0F, 0x3C, 0x50, 0x06, 0x09, 0xE4]) = .ok (.pktAtlas25 [0xC0, 0x10, 0x65, 0x05, 0x0F, 0x3C, 0x50, 0x06, 0x09, 0xE4]) := by decide
theorem test_decode_pktAtlas26 : decode (.frame [0x82, 0xA5, 0xA6, 0x00, 0x88, 0x3A, 0xAC, 0xE4, 0x3F, 0x5E]) = .ok (.pktAtlas26 [0x82, 0xA5, 0xA6, 0x00, 0x88, 0x3A, 0xAC, 0xE4, 0x3F, 0x5E]) := by decide
theorem test_decode_pktAtlas27 : decode (.frame [0xC3, 0xFF, 0xE7, 0x00, 0x4B, 0xDD, 0x60, 0x81, 0xC0, 0x72]) = .ok (.pktAtlas27 [0xC3, 0xFF, 0xE7, 0x00, 0x4B, 0xDD, 0x60, 0x81, 0xC0, 0x72]) := by decide
theorem test_decode_pktNotos : decode (.frame [0xC7, 0x77, 0x20, 0x3F, 0x90, 0xF0, 0x14, 0x31]) = .ok (.pktNotos [0xC7, 0x77, 0x20, 0x3F, 0x90, 0xF0, 0x14, 0x31]) := by decide
theorem test_decode_pktIris31 : decode (.frame [0xCA, 0x3C, 0x71, 0x0B, 0x23, 0x07, 0x68, 0x14]) = .ok (.pktIris31 [0xCA, 0x3C, 0x71, 0x0B, 0x23, 0x07, 0x68, 0x14]) := by decide
theorem test_decode_pktIris38 : decode (.frame [0xCA, 0x3C, 0x78, 0x01, 0x48, 0x38, 0x28, 0x27]) = .ok (.pktIris38 [0xCA, 0x3C, 0x78, 0x01, 0x48, 0x38, 0x28, 0x27]) := by decide

/-- REG-13: offset 0x2000 sets bit 45. -/
theorem test_decode_bit45 : decode (.stimulus 0x3000200000000000) = .error .reservedBits := by decide
/-- REG-21. -/
theorem test_decode_tick_bit45 : decode (.stimulus 0x0000200000000005) = .error .reservedBits := by decide
theorem test_decode_edge_data : decode (.stimulus 0x1000000000000002) = .error .unusedField := by decide
theorem test_decode_consume_off : decode (.stimulus 0x2000000400000000) = .error .unusedField := by decide
theorem test_decode_read_data : decode (.stimulus 0x3000000800000001) = .error .unusedField := by decide
/-- DX-18: a Rain frame of seven bytes. -/
theorem test_decode_rain7 : decode (.frame [0x01, 0xAB, 0xF0, 0x00, 0x00, 0x60, 0x39]) = .error .noMatch := by
  decide
/-- DX-19: a Tower frame of eight bytes. -/
theorem test_decode_tower8 :
    decode (.frame [0xC1, 0x23, 0x84, 0x3A, 0x27, 0xDE, 0xA7, 0x00]) = .error .noMatch := by decide

/-! One step against the vectors. -/

/-- TK-3. -/
theorem test_tick_wraps : ends (exec (.tick 2) { idle with ts := 0xFFFFFFFF }) (·.ts == 1) = true := by decide
/-- EC-2. -/
theorem test_edge_written : ends (exec (.edge true) { cap with ts := 1000 })
    (fun t => t.wr == 1 && t.ring == [(1, 1000)]) = true := by decide
/-- EC-5, its last edge: the filtered mark is coalesced. -/
theorem test_edge_coalesced :
    ends (exec (.edge false) { cap with ts := 1500, ring := [(1, 1000), (2, 1300)], wr := 2, filt := true })
      (fun t => t.ring == [(1, 1000), (2, 1500)] && t.wr == 2 && !t.filt) = true := by decide
/-- CN-1: the pulse is a space of 1000. -/
theorem test_consume : ends (exec .consume twoEdges) (fun t => t.rd == 1 && t.prevTs == 1000) = true := by
  decide
/-- R311: the reset values. -/
theorem test_hwReset : ends (exec .hwReset { pin with tolUs := 150, ts := 7 })
    (fun t => t.tolUs == 90 && t.ts == 0 && !t.demEn) = true := by decide
/-- CN-6. -/
theorem test_pulseIn_space : ends (exec (.wrPulseIn 0xFFFFFDA8) pin) (·.syncCnt == 1) = true := by decide
/-- BA-4's first bits: 010 is stored most significant bit first. -/
theorem test_pulseIn_bit : ends (exec (.wrPulseIn 400) (collecting [] 1))
    (fun t => t.nbits == 2 && frameByte t 0 == 0x40) = true := by decide
/-- REG-3. -/
theorem test_rdStatus : ends (exec .rdStatus idle) (·.rdata == some 0x080) = true := by decide
/-- EC-11. -/
theorem test_rdStatus_full : ends (exec .rdStatus { full1 with ovf := true, ovfActive := true })
    (·.rdata == some 0x109) = true := by decide
/-- BA-3 after the eighth write. -/
theorem test_rdDemod : ends (exec .rdDemod { pin with syncCnt := 3, nbits := 1 }) (·.rdata == some 0x103) = true := by
  decide
/-- P1, its last line. -/
theorem test_rdRingPtr : ends (exec .rdRingPtr { idle with rd := 1 }) (·.rdata == some 0x00010000) = true := by decide
/-- REG-11. -/
theorem test_rdRingData : ends (exec (.rdRingData 16) { idle with ring := [(0, 7)] }) (·.rdata == some 0) = true := by
  decide
/-- R66: byte 0 of the frame is the low byte of `FRAME0`. -/
theorem test_rdFrame0 : ends (exec .rdFrame0 (collecting [0xC1, 0x23, 0x84, 0x3A] 32))
    (·.rdata == some 0x3A8423C1) = true := by decide
/-- REG-14. -/
theorem test_wrCtrl : ends (exec (.wrCtrl 0x7FFFFFFF) { idle with ovf := true })
    (fun t => ctrlWord t == 0x1F && t.ovf) = true := by decide
/-- P5: the soft reset keeps `RES_SEQ` and the timing registers. -/
theorem test_wrCtrl_soft : ends (exec (.wrCtrl 0x80000006) { pin with resSeq := 1, csumErrCount := 1, tolUs := 80 })
    (fun t => t.resSeq == 1 && t.csumErrCount == 0 && t.tolUs == 80) = true := by decide
/-- P1, line 22. -/
theorem test_wrStatus : ends (exec (.wrStatus 1) { idle with ovf := true, ovfActive := true, resNew := true })
    (fun t => !t.ovf && t.ovfActive && t.resNew) = true := by decide
/-- REG-17. -/
theorem test_wrFilterUs : ends (exec (.wrFilterUs 0x12345) idle) (·.filterUs == 0x2345) = true := by decide
/-- REG-16. -/
theorem test_wrSyncMin : ends (exec (.wrSyncMin 0x103) idle) (·.syncMin == 3) = true := by decide
/-- REG-18. -/
theorem test_wrOvfCount : ends (exec (.wrOvfCount 0x1234) { idle with ovfCount := 2 }) (·.ovfCount == 0) = true := by
  decide

/-- The record words an accepted frame leaves. -/
def recordOf (i : Instr) : Option RecWords :=
  match exec i pin with
  | .next t => t.recPort
  | _ => none

/-- DX-1. -/
theorem test_tower : recordOf (.pktTower [0xC1, 0x23, 0x84, 0x3A, 0x27, 0xDE, 0xA7]) =
    some ⟨0x00E41C41, 0x006E8123, 0x000003DE, 0, 0, 0⟩ := by decide
/-- DX-2. -/
theorem test_rain : recordOf (.pktRain [0x01, 0xAB, 0xF0, 0x00, 0x00, 0x60, 0x39, 0x35]) =
    some ⟨0x01141302, 0x008001AB, 0, 0x00003039, 0, 0⟩ := by decide
/-- DX-3, with every distance 9. -/
theorem test_ltng : recordOf (.pktLtng [0xCA, 0xBC, 0x6F, 0x2D, 0x09, 0xE2, 0x12, 0xC5, 0xE4]) =
    some ⟨0x01341EF3, 0x086B4ABC, 0x025004E2, 0x00A00000 + (9 <<< 26), 0, 0⟩ := by decide
/-- DX-4. -/
theorem test_atlas05 : recordOf (.pktAtlas05 [0xC2, 0xA5, 0xC5, 0xB2, 0x11, 0xCA, 0xB7, 0x00, 0x00, 0x70]) =
    some ⟨0x01541C54, 0x016DC2A5, 0x000648CA, 0, 0, 0⟩ := by decide
/-- DX-5. -/
theorem test_atlas06 : recordOf (.pktAtlas06 [0xC1, 0x00, 0xC6, 0xE4, 0x82, 0xE8, 0x11, 0x00, 0x00, 0xE6]) =
    some ⟨0x01541C64, 0x03800100, 0x000C8000, 0x00000011, 0x000E105A, 0⟩ := by decide
/-- DX-8. -/
theorem test_atlas07 : recordOf (.pktAtlas07 [0x02, 0xA5, 0x47, 0x81, 0x47, 0x27, 0x88, 0x00, 0x00, 0x65]) =
    some ⟨0x01543074, 0x050002A5, 0x00003000, 0, 0x07000000, 0x00001388⟩ := by decide
/-- DX-6. -/
theorem test_atlas25 : recordOf (.pktAtlas25 [0xC0, 0x10, 0x65, 0x05, 0x0F, 0x3C, 0x50, 0x06, 0x09, 0xE4]) =
    some ⟨0x01541E54, 0x09740010, 0x00C0A7BC, 0x01200000 + (9 <<< 26), 0, 0⟩ := by decide
/-- DX-7. -/
theorem test_atlas26 : recordOf (.pktAtlas26 [0x82, 0xA5, 0xA6, 0x00, 0x88, 0x3A, 0xAC, 0xE4, 0x3F, 0x5E]) =
    some ⟨0x01442A64, 0x1B8002A5, 0x0C800000, 0x03E0012C + (9 <<< 26), 0x002A310E, 0⟩ := by decide
/-- DX-9. -/
theorem test_atlas27 : recordOf (.pktAtlas27 [0xC3, 0xFF, 0xE7, 0x00, 0x4B, 0xDD, 0x60, 0x81, 0xC0, 0x72]) =
    some ⟨0x01541E74, 0x0D0003FF, 0x00301000, 9 <<< 26, 0x0B000000, 0x00002EE0⟩ := by decide
/-- DX-10. -/
theorem test_notos : recordOf (.pktNotos [0xC7, 0x77, 0x20, 0x3F, 0x90, 0xF0, 0x14, 0x31]) =
    some ⟨0x01041E05, 0x016FC777, 0x00014870, 0, 0, 0⟩ := by decide
/-- DX-12. -/
theorem test_iris31 : recordOf (.pktIris31 [0xCA, 0x3C, 0x71, 0x0B, 0x23, 0x07, 0x68, 0x14]) =
    some ⟨0x01141F16, 0x03800A3C, 0x0005A000, 0x000003E8, 0x002A3003, 0⟩ := by decide
/-- DX-13. -/
theorem test_iris38 : recordOf (.pktIris38 [0xCA, 0x3C, 0x78, 0x01, 0x48, 0x38, 0x28, 0x27]) =
    some ⟨0x01141F86, 0x016A0A3C, 0x0000C438, 0, 0, 0⟩ := by decide
/-- VAL-4. -/
theorem test_tower_checksum : ends (exec (.pktTower [0xC1, 0x23, 0x04, 0x3A, 0x27, 0x5E, 0xA8]) pin)
    (fun t => t.csumErrCount == 1 && t.parErrCount == 0) = true := by decide

/-- The IEEE 754 binary64 format, for the two tests below. -/
def binary64 : FloatFormat := ⟨0, 52, -1022, 2045, .tiesToEven⟩

/-- IEEE 754: the binary64 number nearest to 0.1 has the significand 1999999999999A (hexadecimal). -/
theorem test_roundTo : roundTo binary64 (1 / 10) = some (0x1999999999999A / 2 ^ 56) := by decide +kernel
/-- R220 by hand: (2250 - 1800) * 0.1 rounds to 45, and 45 * 5 / 9 is 25. -/
theorem test_evalCelsius : evalCelsius binary64 2250 1800 = some 25 := by decide +kernel

/-! A state and operands for the hypotheses of each statement, each clause at a boundary. -/

theorem test_witness_StepRunsDecodedOperation :
    ({ idle with stim := [0x00000000000003E8] } : State).stim = 0x00000000000003E8 :: [] ∧
    decode (.stimulus 0x00000000000003E8) = .ok (.tick 1000) := by decide

/-- Refused at KIND 6, the lowest reserved one; a next state at KIND 5. -/
theorem test_witness_StepRefusesExactlyTheseStimuli :
    ({ idle with stim := [0x6000000000000000] } : State).stim = 0x6000000000000000 :: [] ∧
    (stimKind 0x6000000000000000).toNat = 6 ∧
    step { idle with stim := [0x6000000000000000] } = .refused .reservedKind ∧
    ends (step { idle with stim := [0x5000000000000000] }) (fun _ => true) = true :=
  ⟨rfl, by decide, rfl, by decide⟩

theorem test_witness_DecodeOfEncodeIsIdentity :
    WellFormed (.rdReserved 0x0FFC) = true ∧ WellFormed (.pktTower [0xC1, 0x23, 0x84, 0x3A, 0x27, 0xDE, 0xA7]) = true := by decide

theorem test_witness_EncodeOfDecodeIsIdentity :
    decode (.stimulus 0x3000103C00000000) = .ok (.rdRingData 15) ∧
    decode (.frame [0xC1, 0x23, 0x84, 0x3A, 0x27, 0xDE, 0xA7]) = .ok (.pktTower [0xC1, 0x23, 0x84, 0x3A, 0x27, 0xDE, 0xA7]) := by decide

theorem test_witness_DecoderFollowsTheOpcodeTable :
    decode (.stimulus 0x5000000000000000) = .ok .hwReset ∧
    decode (.stimulus 0x5000000000000001) = .error .unusedField := by decide

theorem test_witness_ReadsWriteNothingAndRepeat :
    10 ≤ rowNumber .rdId ∧ rowNumber .rdId ≤ 39 ∧ 10 ≤ rowNumber (.rdReserved 0x038) ∧
    rowNumber (.rdReserved 0x038) ≤ 39 := by decide

theorem test_witness_CtrlWriteSetsEnablesAndSoftResets :
    (0x7FFFFFFF : Word).getLsbD 31 = false ∧ (0x80000000 : Word).getLsbD 31 = true := by decide

theorem test_witness_StatusWriteClearsOnlyWrittenFlags :
    ({ full1 with ovfActive := true } : State).ovfActive = true ∧
    ({ full1 with ovfActive := true } : State).ovf = false ∧
    exec (.edge true) { full1 with ovfActive := true } = .next { full1 with ovfActive := true } ∧
    ({ idle with ovf := true, resNew := true } : State).ovf = true ∧
    ({ idle with ovf := true, resNew := true } : State).resNew = true := ⟨rfl, rfl, rfl, rfl, rfl⟩

/-- An edge 99 after the last stored one, with `FILTER_US` 100. -/
theorem test_witness_TimingWritesTruncate :
    ({ cap with ts := 99 } : State).capEn = true ∧
    (({ cap with ts := 99 } : State).wr.toNat + 1) % ({ cap with ts := 99 } : State).params.ringSize
      ≠ ({ cap with ts := 99 } : State).rd.toNat ∧
    (({ cap with ts := 99 } : State).ts - slot { cap with ts := 99 } 0).toNat
      < (100 : Word).toNat % 2 ^ 16 := by decide

theorem test_witness_CounterWritesClear :
    exec (.wrOvfCount 5) { full1 with ovfCount := 9 } = .next { full1 with ovfCount := 0 } ∧
    ({ full1 with ovfCount := 9 } : State).capEn = true ∧ ringFull { full1 with ovfCount := 9 } = true ∧
    ({ full1 with ovfCount := 9 } : State).ovfActive = false := ⟨rfl, rfl, by decide, rfl⟩

theorem test_witness_ReadOnlyAndReservedWritesIgnored :
    reservedOffset 0x038 = true ∧ reservedOffset 0x08C = true ∧ reservedOffset 0xFFC = true := by decide

theorem test_witness_PulseInWriteRunsOnePulse :
    idle.demEn = false ∧ dem.srcSel = false ∧ pin.demEn = true ∧ pin.srcSel = true ∧
    (0x80000000 : Word) ≠ 0 ∧ (0x80000000 : Word).toInt < 0 ∧ 0 < (0x7FFFFFFF : Word).toInt := by decide

theorem test_witness_TickAddsModulo :
    exec (.tick 5) idle = .next { idle with ts := 5 } ∧
    exec (.tick 0xFFFFFFFF) { idle with ts := 5 } = .next { idle with ts := 4 } ∧
    ({ idle with ts := 0xFFFFFF00 } : State).ts = 0xFFFFFF00 := ⟨rfl, rfl, rfl⟩

/-- Enabled with an odd next slot (a space) and an even one (a mark, over the end of the ring); refused
for each of the three reasons. -/
theorem test_witness_ConsumeTakesTheNextEntry :
    twoEdges.demEn = true ∧ twoEdges.srcSel = false ∧ twoEdges.rd ≠ twoEdges.wr ∧
    (twoEdges.rd.toNat + 1) % twoEdges.params.ringSize = 1 ∧
    ({ twoEdges with rd := 15 } : State).rd ≠ ({ twoEdges with rd := 15 } : State).wr ∧
    (({ twoEdges with rd := 15 } : State).rd.toNat + 1) % twoEdges.params.ringSize = 0 ∧
    cap.demEn = false ∧ pin.srcSel = true ∧ dem.rd = dem.wr := by decide

/-- The five clauses: capture off, full in and out of an episode, a delta of 99, and a delta of 100 at
the wrong level. -/
theorem test_witness_EdgeThatStoresNothing :
    idle.capEn = false ∧
    full1.capEn = true ∧ (full1.wr.toNat + 1) % full1.params.ringSize = full1.rd.toNat ∧
    ({ full1 with ovfActive := true } : State).ovfActive = true ∧ full1.ovfActive = false ∧
    cap.capEn = true ∧ (cap.wr.toNat + 1) % cap.params.ringSize ≠ cap.rd.toNat ∧
    ((99 : Word) - slot cap cap.wr.toNat).toNat < cap.filterUs.toNat ∧
    cap.filterUs.toNat ≤ ((100 : Word) - slot cap cap.wr.toNat).toNat ∧ cap.filt = false ∧
    false.toNat ≠ (cap.wr.toNat + 1) % cap.params.ringSize % 2 := by decide

/-- A delta of exactly `FILTER_US`: coalesced, a new slot after a filtered mark, a new slot at its level. -/
theorem test_witness_EdgeThatStores :
    Memory.wf cap.ring = true ∧ cap.capEn = true ∧
    (cap.wr.toNat + 1) % cap.params.ringSize ≠ cap.rd.toNat ∧
    cap.filterUs.toNat ≤ (({ cap with ts := 100 } : State).ts - slot { cap with ts := 100 } cap.wr.toNat).toNat ∧
    ({ cap with ts := 100, filt := true } : State).filt = true ∧ false.toNat = cap.wr.toNat % 2 ∧
    true.toNat ≠ cap.wr.toNat % 2 ∧ cap.filt = false ∧
    true.toNat = (cap.wr.toNat + 1) % cap.params.ringSize % 2 := by decide

theorem test_witness_EdgeNeverHarmsAnEntry :
    exec (.edge true) { twoEdges with ts := 1600 } =
      .next { twoEdges with ts := 1600, ring := [(1, 1000), (2, 1500), (3, 1600)], wr := 3 } ∧
    Memory.wf twoEdges.ring = true ∧ twoEdges.wr.toNat < twoEdges.params.ringSize ∧
    twoEdges.rd.toNat < twoEdges.params.ringSize ∧ twoEdges.rd ≠ twoEdges.wr ∧ 0 + 1 < ringCount twoEdges ∧
    slot { twoEdges with ring := [(1, 1000), (2, 1500), (3, 1600)] } 3 ≠ slot twoEdges 3 :=
  ⟨rfl, by decide, by decide, by decide, by decide, by decide, by decide⟩

theorem test_witness_OnlyResetClearsTimerAndSequence :
    exec (.tick 5) idle = .next { idle with ts := 5 } ∧ Instr.tick 5 ≠ .hwReset ∧
    ends (exec (.pktTower [0xC1, 0x23, 0x84, 0x3A, 0x27, 0xDE, 0xA7]) idle) (·.resSeq == 1) = true :=
  ⟨rfl, by decide, by decide⟩

/-- The bands of the vectors CL at their ends. -/
theorem test_witness_BandTableAtReset :
    idle.syncUs = 600 ∧ idle.zeroUs = 200 ∧ idle.oneUs = 400 ∧ idle.tolUs = 90 ∧
    classify idle 109 = .miss ∧ classify idle 110 = .zero ∧ classify idle 290 = .zero ∧
    classify idle 291 = .miss ∧ classify idle 309 = .miss ∧ classify idle 310 = .one ∧
    classify idle 490 = .one ∧ classify idle 491 = .miss ∧ classify idle 509 = .miss ∧
    classify idle 510 = .sync ∧ classify idle 690 = .sync ∧ classify idle 691 = .miss := by decide

theorem test_witness_OverlappingBandsKeepTheOrder :
    ({ idle with tolUs := 150 } : State).syncUs = 600 ∧ ({ idle with tolUs := 150 } : State).zeroUs = 200 ∧
    ({ idle with tolUs := 150 } : State).oneUs = 400 ∧ ({ idle with tolUs := 150 } : State).tolUs = 150 ∧
    pin.demEn = true ∧ pin.srcSel = true := by decide

theorem test_witness_ConfigOverlapIsACommonPoint :
    cap.syncUs = idle.syncUs ∧ cap.zeroUs = idle.zeroUs ∧ cap.oneUs = idle.oneUs ∧ cap.tolUs = idle.tolUs ∧
    cfgOverlap { idle with tolUs := 100 } = true ∧ cfgOverlap { idle with tolUs := 99 } = false := by decide

/-- A sync pulse at 510 and 690; a miss at 509; a space; a data mark with `sync_cnt = SYNC_MIN`; bits. -/
theorem test_witness_SyncCountingAndSpaces :
    pin.nbits = 0 ∧ classify pin 510 = .sync ∧ classify pin 690 = .sync ∧ classify pin 509 = .miss ∧
    classify pin 200 ≠ .sync ∧
    ({ pin with syncCnt := 2 } : State).syncCnt.toNat ≤ ({ pin with syncCnt := 2 } : State).syncMin.toNat ∧
    (collecting [] 1).nbits ≠ 0 := by decide

/-- The first bit (`sync_cnt` one above `SYNC_MIN`), the last bit but one of a byte, bit 78 of the frame. -/
theorem test_witness_DataMarkAppendsOneBit :
    classify pin 200 = (if false then .one else .zero) ∧ classify pin 490 = (if true then .one else .zero) ∧
    pin.nbits = 0 ∧ ({ pin with syncCnt := 3 } : State).syncMin.toNat
      < ({ pin with syncCnt := 3 } : State).syncCnt.toNat ∧
    (pin.nbits.toNat + 1) % 8 ≠ 0 ∧ (collecting [] 6).nbits.toNat < 80 ∧
    ((collecting [] 6).nbits.toNat + 1) % 8 ≠ 0 ∧ ((collecting [] 78).nbits.toNat + 1) % 8 ≠ 0 := by decide

/-- The first byte (no row), the seventh of a Tower frame (its row, accepted), the tenth. -/
theorem test_witness_ByteBoundaryTriesTheDecoders :
    classify pin 400 = (if true then .one else .zero) ∧
    (collecting [] 7).nbits ≠ 0 ∧ ((collecting [] 7).nbits.toNat + 1) % 8 = 0 ∧
    decode (.frame (framePrefix (collecting [] 8) 1)) = .error .noMatch ∧
    ((collecting [0xC1, 0x23, 0x84, 0x3A, 0x27, 0xDE, 0xA7] 55).nbits.toNat + 1) % 8 = 0 ∧
    decode (.frame (framePrefix (collecting [0xC1, 0x23, 0x84, 0x3A, 0x27, 0xDE, 0xA7] 56) 7)) = .ok (.pktTower [0xC1, 0x23, 0x84, 0x3A, 0x27, 0xDE, 0xA7]) ∧
    acceptable (framePrefix (collecting [0xC1, 0x23, 0x84, 0x3A, 0x27, 0xDE, 0xA7] 56) 7) = true ∧
    (collecting [] 79).nbits.toNat < 80 ∧ ((collecting [] 79).nbits.toNat + 1) % 8 = 0 := by decide

/-- The invariant in a state that collects bits, with entries in the ring. -/
theorem test_witness_AbortIsAFrameReset :
    MachineInv { collecting [0xA1] 9 with ring := [(1, 1000), (15, 7)], wr := 15, rd := 3 } ∧
    ({ collecting [0xA1] 9 with ring := [(1, 1000), (15, 7)], wr := 15, rd := 3 } : State).nbits ≠ 0 ∧
    classify pin 510 = .sync ∧ classify pin 491 = .miss :=
  ⟨⟨by decide, by decide, by decide, by decide, by decide, by decide, by decide, by decide⟩,
    by decide, by decide, by decide⟩

/-- Each row of the table, with an accept and without, and the 80th bit. -/
theorem test_witness_TransitionTable :
    pin.nbits.toNat < 80 ∧ pin.nbits = 0 ∧ classify pin 600 = .sync ∧ classify pin 290 = .zero ∧
    ({ pin with syncCnt := 3 } : State).syncMin.toNat < ({ pin with syncCnt := 3 } : State).syncCnt.toNat ∧
    classify pin 309 = .miss ∧ (collecting [] 79).nbits ≠ 0 ∧ (collecting [] 79).nbits.toNat = 79 ∧
    (basPulse .mark 400 (collecting [0xC1, 0x23, 0x84, 0x3A, 0x27, 0xDE, 0xA6] 55)).frameOkCount = 1 ∧
    (basPulse .mark 400 (collecting [] 78)).frameOkCount = (collecting [] 78).frameOkCount := by decide

theorem test_witness_DataMarksEndAFrame :
    (collecting [] 78).nbits ≠ 0 ∧ (collecting [] 78).nbits.toNat < 80 ∧ (collecting [] 78).demEn = true ∧
    (collecting [] 78).srcSel = true ∧ DataMarks (collecting [] 78) [110, 490] ∧
    [(110 : Word), 490].length + (collecting [] 78).nbits.toNat = 80 ∧
    ({ collecting [] 78 with stim := [(110 : Word), 490].map pulseInWord ++ [] } : State).stim =
      [(110 : Word), 490].map pulseInWord ++ [] := by
  refine ⟨by decide, by decide, by decide, by decide, ?_, by decide, rfl⟩
  intro d hd
  rcases List.mem_cons.1 hd with rfl | hd
  · decide
  · obtain rfl := List.mem_singleton.1 hd
    decide

theorem test_witness_DecodeStepRunsThePacketRow :
    decode (.frame (framePrefix (collecting [0xC1, 0x23, 0x84, 0x3A, 0x27, 0xDE, 0xA7] 56) 7)) = .ok (.pktTower [0xC1, 0x23, 0x84, 0x3A, 0x27, 0xDE, 0xA7]) ∧
    decode (.frame (framePrefix (collecting [0xC1, 0x23, 0x84, 0x3A, 0x27, 0xDE, 0xA7] 56) 6)) = .error .noMatch := by decide

theorem test_witness_DiscriminatorsAreDisjoint :
    (fmtRom .rain).len = 8 ∧ (fmtRom .notos).len = 8 ∧ Format.rain ≠ .notos ∧
    (0x30 : BitVec 6) ∈ (fmtRom .rain).codes ∧
    formatMatches .tower [0xC1, 0x23, 0x84, 0x3A, 0x27, 0xDE, 0xA7] = true ∧
    [Format.atlas, .lightning, .iris, .notos, .rain, .tower].Perm priority ∧
    decodeStep 7 .count (collecting [0, 0, 0x04] 56) =
      (false, countCsumFail (collecting [0, 0, 0x04] 56)) := by decide

/-- SX-1 and SX-2: a passing frame, a changed byte, a flipped bit, an exempt byte. -/
theorem test_witness_WhatTheChecksDetect :
    checksum [0xC1, 0x23, 0x84, 0x3A, 0x27, 0xDE, 0xA7] = true ∧ (6 : Nat) < ([0xC1, 0x23, 0x84, 0x3A, 0x27, 0xDE, 0xA7] : List Byte).length ∧
    (0xA6 : Byte) ≠ ([0xC1, 0x23, 0x84, 0x3A, 0x27, 0xDE, 0xA7] : List Byte).getD 6 0 ∧ byteParity 0x84 = true ∧
    parity [0xC1, 0x23, 0x84, 0x3A, 0x27, 0xDE, 0xA7] 2 5 [] = true ∧ parity [0xC7, 0x77, 0x20, 0x3F, 0x90, 0xF0, 0x14, 0x31] 2 6 [2] = true := by decide

/-- SX-1, the second row. -/
theorem test_witness_ChecksumFailureCountsOnce :
    checksum [0xC0, 0x23, 0x84, 0x3A, 0x27, 0xDE, 0xA7] = false := by decide

/-- VAL-2, and a Notos frame whose byte 6 has odd parity. -/
theorem test_witness_ParityFailureCountsOnce :
    checksum [0xC1, 0x23, 0x04, 0x3A, 0x27, 0x5E, 0xA7] = true ∧
    ¬ EvenParity [0xC1, 0x23, 0x04, 0x3A, 0x27, 0x5E, 0xA7] 2 5 ∧
    checksum [0xC7, 0x77, 0x20, 0x3F, 0x90, 0xF0, 0x15, 0x32] = true ∧
    ¬ EvenParity [0xC7, 0x77, 0x20, 0x3F, 0x90, 0xF0, 0x15, 0x32] 3 6 := by
  unfold EvenParity
  decide

theorem test_witness_TowerFrameIsAccepted :
    packetShape 7 0x04 [0xC1, 0x23, 0x84, 0x3A, 0x27, 0xDE, 0xA7] = true ∧ checksum [0xC1, 0x23, 0x84, 0x3A, 0x27, 0xDE, 0xA7] = true ∧ EvenParity [0xC1, 0x23, 0x84, 0x3A, 0x27, 0xDE, 0xA7] 2 5 := by
  unfold EvenParity
  decide

theorem test_witness_RainFrameIsAccepted :
    packetShape 8 0x30 [0x01, 0xAB, 0xF0, 0x00, 0x00, 0x60, 0x39, 0x35] = true ∧ checksum [0x01, 0xAB, 0xF0, 0x00, 0x00, 0x60, 0x39, 0x35] = true ∧ EvenParity [0x01, 0xAB, 0xF0, 0x00, 0x00, 0x60, 0x39, 0x35] 2 6 := by
  unfold EvenParity
  decide

theorem test_witness_LightningFrameIsAccepted :
    packetShape 9 0x2F [0xCA, 0xBC, 0x6F, 0x2D, 0x09, 0xE2, 0x12, 0xC5, 0xE4] = true ∧ checksum [0xCA, 0xBC, 0x6F, 0x2D, 0x09, 0xE2, 0x12, 0xC5, 0xE4] = true ∧ EvenParity [0xCA, 0xBC, 0x6F, 0x2D, 0x09, 0xE2, 0x12, 0xC5, 0xE4] 2 7 := by
  unfold EvenParity
  decide

theorem test_witness_AtlasThFrameIsAccepted :
    packetShape 10 0x05 [0xC2, 0xA5, 0xC5, 0xB2, 0x11, 0xCA, 0xB7, 0x00, 0x00, 0x70] = true ∧ checksum [0xC2, 0xA5, 0xC5, 0xB2, 0x11, 0xCA, 0xB7, 0x00, 0x00, 0x70] = true ∧ EvenParity [0xC2, 0xA5, 0xC5, 0xB2, 0x11, 0xCA, 0xB7, 0x00, 0x00, 0x70] 2 8 ∧
    packetShape 10 0x25 [0xC0, 0x10, 0x65, 0x05, 0x0F, 0x3C, 0x50, 0x06, 0x09, 0xE4] = true ∧ checksum [0xC0, 0x10, 0x65, 0x05, 0x0F, 0x3C, 0x50, 0x06, 0x09, 0xE4] = true ∧ EvenParity [0xC0, 0x10, 0x65, 0x05, 0x0F, 0x3C, 0x50, 0x06, 0x09, 0xE4] 2 8 := by
  unfold EvenParity
  decide

theorem test_witness_AtlasWrFrameIsAccepted :
    packetShape 10 0x06 [0xC1, 0x00, 0xC6, 0xE4, 0x82, 0xE8, 0x11, 0x00, 0x00, 0xE6] = true ∧ checksum [0xC1, 0x00, 0xC6, 0xE4, 0x82, 0xE8, 0x11, 0x00, 0x00, 0xE6] = true ∧ EvenParity [0xC1, 0x00, 0xC6, 0xE4, 0x82, 0xE8, 0x11, 0x00, 0x00, 0xE6] 2 8 ∧
    packetShape 10 0x26 [0x82, 0xA5, 0xA6, 0x00, 0x88, 0x3A, 0xAC, 0xE4, 0x3F, 0x5E] = true ∧ checksum [0x82, 0xA5, 0xA6, 0x00, 0x88, 0x3A, 0xAC, 0xE4, 0x3F, 0x5E] = true ∧ EvenParity [0x82, 0xA5, 0xA6, 0x00, 0x88, 0x3A, 0xAC, 0xE4, 0x3F, 0x5E] 2 8 := by
  unfold EvenParity
  decide

theorem test_witness_AtlasUlFrameIsAccepted :
    packetShape 10 0x07 [0x02, 0xA5, 0x47, 0x81, 0x47, 0x27, 0x88, 0x00, 0x00, 0x65] = true ∧ checksum [0x02, 0xA5, 0x47, 0x81, 0x47, 0x27, 0x88, 0x00, 0x00, 0x65] = true ∧ EvenParity [0x02, 0xA5, 0x47, 0x81, 0x47, 0x27, 0x88, 0x00, 0x00, 0x65] 2 8 ∧
    packetShape 10 0x27 [0xC3, 0xFF, 0xE7, 0x00, 0x4B, 0xDD, 0x60, 0x81, 0xC0, 0x72] = true ∧ checksum [0xC3, 0xFF, 0xE7, 0x00, 0x4B, 0xDD, 0x60, 0x81, 0xC0, 0x72] = true ∧ EvenParity [0xC3, 0xFF, 0xE7, 0x00, 0x4B, 0xDD, 0x60, 0x81, 0xC0, 0x72] 2 8 := by
  unfold EvenParity
  decide

theorem test_witness_NotosFrameIsAccepted :
    packetShape 8 0x20 [0xC7, 0x77, 0x20, 0x3F, 0x90, 0xF0, 0x14, 0x31] = true ∧ checksum [0xC7, 0x77, 0x20, 0x3F, 0x90, 0xF0, 0x14, 0x31] = true ∧ EvenParity [0xC7, 0x77, 0x20, 0x3F, 0x90, 0xF0, 0x14, 0x31] 3 6 := by
  unfold EvenParity
  decide

theorem test_witness_IrisFramesAreAccepted :
    checksum [0xCA, 0x3C, 0x71, 0x0B, 0x23, 0x07, 0x68, 0x14] = true ∧ packetShape 8 0x31 [0xCA, 0x3C, 0x71, 0x0B, 0x23, 0x07, 0x68, 0x14] = true ∧
    checksum [0xCA, 0x3C, 0x78, 0x01, 0x48, 0x38, 0x28, 0x27] = true ∧ packetShape 8 0x38 [0xCA, 0x3C, 0x78, 0x01, 0x48, 0x38, 0x28, 0x27] = true := by decide

theorem test_witness_InvariantHoldsAtReset : Initial idle := ⟨prm, [], rfl⟩

/-- The seventh byte of a Tower frame completes: the invariant holds before, and the step accepts. -/
theorem test_witness_EveryStepKeepsTheInvariant :
    MachineInv { collecting [0xC1, 0x23, 0x84, 0x3A, 0x27, 0xDE, 0xA6] 55 with stim := [pulseInWord 400] } ∧
    ends (step { collecting [0xC1, 0x23, 0x84, 0x3A, 0x27, 0xDE, 0xA6] 55 with stim := [pulseInWord 400] })
      (fun t => t.nbits == 0 && t.frameOkCount == 1) = true :=
  ⟨⟨by decide, by decide, by decide, by decide, by decide, by decide, by decide, by decide⟩, by decide⟩

theorem test_witness_RecordPortCarriesAcceptsOnly :
    decode (.stimulus (pulseInWord 400)) ≠ .ok .hwReset ∧
    ends (step { collecting [0xC1, 0x23, 0x84, 0x3A, 0x27, 0xDE, 0xA6] 55 with stim := [pulseInWord 400] })
      (fun t => t.recPort == some t.res && t.resSeq == 1) = true ∧
    ends (step { pin with stim := [pulseInWord 400] }) (fun t => t.recPort == none) = true := by decide

theorem test_witness_OverflowCountsEpisodesOnce :
    ends (exec (.edge false) full1) (fun t => t.ovfActive && t.ovf && t.ovfCount == 1) = true ∧
    Instr.edge false ≠ .hwReset := by decide

theorem test_witness_SingleProducerSingleConsumer :
    exec (.tick 5) idle = .next { idle with ts := 5 } ∧ Instr.tick 5 ≠ .hwReset ∧
    Instr.tick 5 ≠ .consume := ⟨rfl, by decide, by decide⟩

/-- The invariant with entries in the ring, an edge that appends, and `CONSUME`. -/
theorem test_witness_RingIsAQueue :
    MachineInv twoEdges ∧ pending twoEdges = [1000, 1500] ∧
    ends (exec (.edge true) { twoEdges with ts := 1600 }) (fun t => pending t == [1000, 1500, 1600]) = true ∧
    ends (exec .consume twoEdges) (fun t => pending t == [1500]) = true :=
  ⟨⟨by decide, by decide, by decide, by decide, by decide, by decide, by decide, by decide⟩,
    by decide, by decide, by decide⟩

/-- The space of 1000 that `CONSUME` takes is `PULSE_IN` of -1000. -/
theorem test_witness_PulseSourcesAreEquivalent :
    ends (exec .consume twoEdges) (fun _ => true) = true ∧
    1 ≤ (slot twoEdges (twoEdges.rd.toNat + 1) - twoEdges.prevTs).toNat ∧
    (slot twoEdges (twoEdges.rd.toNat + 1) - twoEdges.prevTs).toNat ≤ 2 ^ 31 - 1 ∧
    (0xFFFFFC18 : Word) = (if (twoEdges.rd.toNat + 1) % twoEdges.params.ringSize % 2 = 0
      then slot twoEdges (twoEdges.rd.toNat + 1) - twoEdges.prevTs
      else -(slot twoEdges (twoEdges.rd.toNat + 1) - twoEdges.prevTs)) := by decide

theorem test_witness_DemodulatorIgnoresTheTimer :
    ends (exec .consume twoEdges) (fun _ => true) = true ∧
    ends (exec (.wrPulseIn 600) pin) (·.syncCnt == 1) = true := by decide

theorem test_witness_EventsWithinOneStep :
    MachineInv idle ∧ exec (.tick 5) idle = .next { idle with ts := 5 } ∧ Instr.tick 5 ≠ .hwReset :=
  ⟨⟨by decide, by decide, by decide, by decide, by decide, by decide, by decide, by decide⟩,
    rfl, by decide⟩

/-- IRQ-2 and IRQ-3: an overflow raises it, `WR STATUS` and a soft reset lower it. -/
theorem test_witness_InterruptFollowsTheFlags :
    irq { full1 with ieOvf := true } = false ∧
    ends (exec (.edge false) { full1 with ieOvf := true }) irq = true ∧
    ends (exec (.wrStatus 3) { full1 with ieOvf := true, ovf := true }) (fun t => !irq t) = true ∧
    (0x8000001F : Word).getLsbD 31 = true ∧
    ends (exec (.wrCtrl 0x8000001F) { full1 with ovf := true }) (fun t => !irq t) = true := by decide

end Sys2Proof.Tests
end

section
/-! The bands and the duration comparator (00_scope.md R12, 41_pulse_classifier.md R152). The model computes
the lower end of a band by truncated subtraction of naturals, the rule by a maximum of integers: the two
agree, so the band test is the rule's, and `CLASSIFY` answers the first band that holds. -/

namespace Sys2Proof.Machine

/-- Truncated subtraction is the rule's `max(C - TOL_US, 0)` (00_scope.md R12). -/
theorem bandLo_eq_max (s : State) (c : BitVec 16) :
    (bandLo s c : Int) = max ((c.toNat : Int) - s.tolUs.toNat) 0 := by
  unfold bandLo
  omega

theorem bandHi_eq_add (s : State) (c : BitVec 16) :
    (bandHi s c : Int) = (c.toNat : Int) + s.tolUs.toNat :=
  Nat.cast_add _ _

/-- The rule's band is the closed interval between the two ends the model computes. -/
theorem inBand_iff_between (s : State) (c : BitVec 16) (x : Int) :
    InBand s c x ↔ (bandLo s c : Int) ≤ x ∧ x ≤ (bandHi s c : Int) := by
  rw [bandLo_eq_max, bandHi_eq_add]
  exact Iff.rfl

/-- The band test is the rule's comparison, and none of its operands wraps (00_scope.md R12). -/
theorem inband_iff_inBand (s : State) (d : Word) (c : BitVec 16) :
    inband s d c = true ↔ InBand s c d.toNat := by
  rw [inBand_iff_between, Int.ofNat_le, Int.ofNat_le]
  simp only [inband, Bool.and_eq_true, decide_eq_true_eq]

/-- The four outcomes of `CLASSIFY`, with the bands that give each (41_pulse_classifier.md R152). -/
theorem classify_cases (s : State) (d : Word) :
    (InBand s s.syncUs d.toNat ∧ classify s d = .sync) ∨
    (¬ InBand s s.syncUs d.toNat ∧ InBand s s.zeroUs d.toNat ∧ classify s d = .zero) ∨
    (¬ InBand s s.syncUs d.toNat ∧ ¬ InBand s s.zeroUs d.toNat ∧ InBand s s.oneUs d.toNat ∧
      classify s d = .one) ∨
    (¬ InBand s s.syncUs d.toNat ∧ ¬ InBand s s.zeroUs d.toNat ∧ ¬ InBand s s.oneUs d.toNat ∧
      classify s d = .miss) := by
  simp only [← inband_iff_inBand]
  unfold classify
  split
  · next hsync => exact .inl ⟨hsync, rfl⟩
  · next hsync =>
    split
    · next hzero => exact .inr (.inl ⟨hsync, hzero, rfl⟩)
    · next hzero =>
      split
      · next hone => exact .inr (.inr (.inl ⟨hsync, hzero, hone, rfl⟩))
      · next hone => exact .inr (.inr (.inr ⟨hsync, hzero, hone, rfl⟩))

/-- Settles O25: the band test is the rule's, and in each outcome of `CLASSIFY` the bands that give it rule
out the other three classes. -/
theorem classifyFollowsTheBands : Obligations.ClassifyFollowsTheBands := by
  intro s d
  refine ⟨inband_iff_inBand s d, ?_⟩
  rcases classify_cases s d with ⟨hsync, hclass⟩ | ⟨hsync, hzero, hclass⟩ |
    ⟨hsync, hzero, hone, hclass⟩ | ⟨hsync, hzero, hone, hclass⟩
  · simp [hclass, hsync]
  · simp [hclass, hsync, hzero]
  · simp [hclass, hsync, hzero, hone]
  · simp [hclass, hsync, hzero, hone]

end Sys2Proof.Machine
end

section
/-! Which operations write the ring, the cursors and the frame (20_memory.md R68), and what an edge does to the
ring (40_edge_capture.md R130). -/

namespace Sys2Proof.Machine

/-- Same parameters, ring RAM and cursors: all that the ring part of the invariant and the queue of
unconsumed edges read. -/
structure SameRing (s t : State) : Prop where
  params : t.params = s.params
  ring : t.ring = s.ring
  wr : t.wr = s.wr
  rd : t.rd = s.rd

theorem SameRing.refl (s : State) : SameRing s s := ⟨rfl, rfl, rfl, rfl⟩

/-- Same BAS state and frame buffer: all that the frame part of the invariant reads. -/
structure SameFrame (s t : State) : Prop where
  b : t.b = s.b
  nbits : t.nbits = s.nbits
  syncCnt : t.syncCnt = s.syncCnt

/-- Nothing in the ring and no bit in the frame, as after either reset
(70_reset_and_hazards.md R311). -/
structure StorageEmpty (t : State) : Prop where
  ring : t.ring = []
  wr : t.wr = 0
  rd : t.rd = 0
  nbits : t.nbits = 0
  b : t.b = Vector.replicate 10 0

/-- A pulse leaves the ring and the cursors alone (41_pulse_classifier.md R150, *Writes*). -/
theorem DemOnly.sameRing {s t : State} (h : DemOnly s t) : SameRing s t := by
  unfold DemOnly at h
  constructor <;> rw [h]

theorem DemOnly.prevTs {s t : State} (h : DemOnly s t) : t.prevTs = s.prevTs := by rw [h]

theorem DecodeOnly.sameFrame {s t : State} (h : DecodeOnly s t) : SameFrame s t :=
  ⟨h.b, h.nbits, h.syncCnt⟩

/-- Who writes the ring, the cursors and the frame: `EDGE`, `CONSUME`, a `PULSE_IN` write and the two
resets; every other operation leaves all of them (20_memory.md R68). -/
theorem Effect.storage_cases {i : Instr} {s t : State} (h : Effect i s t) :
    (∃ lvl, i = .edge lvl ∧ t = edgeStep lvl s) ∨
    (i = .consume ∧ consumeEnabled s = true ∧
      t = basPulse (endedLevel (nextSlot s s.rd)) (consumedTs s - s.prevTs) (takeEntry s)) ∨
    (∃ v p d, i = .wrPulseIn v ∧ t = basPulse p d s) ∨
    ((i = .hwReset ∨ ∃ v : Word, v.getLsbD 31 = true ∧ i = .wrCtrl v) ∧ StorageEmpty t) ∨
    (SameRing s t ∧ SameFrame s t) := by
  cases h
  case edge lvl => exact .inl ⟨lvl, rfl, rfl⟩
  case consume he => exact .inr (.inl ⟨rfl, he, rfl⟩)
  case pulse v p d _ _ => exact .inr (.inr (.inl ⟨v, p, d, rfl, rfl⟩))
  case hwReset => exact .inr (.inr (.inr (.inl ⟨.inl rfl, ⟨rfl, rfl, rfl, rfl, rfl⟩⟩)))
  case softReset v hv =>
    exact .inr (.inr (.inr (.inl ⟨.inr ⟨v, hv, rfl⟩, ⟨rfl, rfl, rfl, rfl, rfl⟩⟩)))
  case packet f bs r _ =>
    have hd := validateAndAccept_decodeOnly f bs r .count s
    exact .inr (.inr (.inr (.inr ⟨hd.demOnly.sameRing, hd.sameFrame⟩)))
  all_goals exact .inr (.inr (.inr (.inr ⟨⟨rfl, rfl, rfl, rfl⟩, ⟨rfl, rfl, rfl⟩⟩)))

/-- What an edge does to the ring: nothing; the newest entry rewritten, where the last edge was filtered; or a
new entry, where the ring was not full (40_edge_capture.md R130, R131, R133). -/
theorem edgeStep_ring_cases (lvl : Bool) (s : State) :
    SameRing s (edgeStep lvl s) ∨
    (s.filt = true ∧ SameRing (ringWrite s s.wr s.ts) (edgeStep lvl s)) ∨
    (ringFull s = false ∧ SameRing (normalWrite s s.ts) (edgeStep lvl s)) := by
  rcases edgeStep_cases lvl s with ⟨_, he⟩ | ⟨_, _, _, he⟩ | ⟨_, _, _, he⟩ | ⟨_, hroom, he⟩ <;> rw [he]
  · exact .inl (.refl s)
  · exact .inl (.refl s)
  · exact .inl ⟨rfl, rfl, rfl, rfl⟩
  · rcases captureEdge_cases lvl { s with ovfActive := false } with ⟨_, hc⟩ | ⟨_, hfilt, _, hc⟩ |
      ⟨_, _, _, hc⟩ | ⟨_, _, _, hc⟩ | ⟨_, _, _, hc⟩ <;> rw [hc]
    · exact .inl ⟨rfl, rfl, rfl, rfl⟩
    · exact .inr (.inl ⟨hfilt, rfl, rfl, rfl, rfl⟩)
    · exact .inr (.inr ⟨hroom, rfl, rfl, rfl, rfl⟩)
    · exact .inl ⟨rfl, rfl, rfl, rfl⟩
    · exact .inr (.inr ⟨hroom, rfl, rfl, rfl, rfl⟩)

/-- An edge leaves the BAS state and the frame alone (40_edge_capture.md R138). -/
theorem edgeStep_sameFrame (lvl : Bool) (s : State) : SameFrame s (edgeStep lvl s) := by
  constructor <;> rw [edgeStep_frame]

end Sys2Proof.Machine
end

section
/-! The invariant is kept. It has two parts, which read disjoint state: the ring RAM with its cursors, and the
BAS state with the frame buffer. Each is kept by every operation that writes its state. -/

namespace Sys2Proof.Machine

/-- The part of the invariant about the ring RAM and its cursors (10_state.md R23 to R25). -/
structure RingInv (s : State) : Prop where
  wf : Memory.wf s.ring = true
  below : Memory.below s.params.ringSize s.ring = true
  wrLt : s.wr.toNat < s.params.ringSize
  rdLt : s.rd.toNat < s.params.ringSize

/-- The part of the invariant about the BAS state and the frame buffer (10_state.md R32 to R34). -/
structure FrameInv (s : State) : Prop where
  nbitsLt : s.nbits.toNat < maxBits
  syncBefore : s.nbits ≠ 0 → s.syncCnt ≠ 0
  restZero : ∀ k, s.nbits.toNat ≤ k → k < maxBits → frameBit s k = false
  noneAcceptable : ∀ n, n ≤ s.nbits.toNat / 8 → acceptable (framePrefix s n) = false

/-- The two parts make up the invariant. -/
theorem machineInv_iff (s : State) : MachineInv s ↔ RingInv s ∧ FrameInv s :=
  ⟨fun h => ⟨⟨h.ringWf, h.ringBelow, h.wrLt, h.rdLt⟩,
      ⟨h.nbitsLt, h.syncBefore, h.restZero, h.noneAcceptable⟩⟩,
    fun ⟨hr, hf⟩ => ⟨hr.wf, hr.below, hr.wrLt, hr.rdLt, hf.nbitsLt, hf.syncBefore, hf.restZero,
      hf.noneAcceptable⟩⟩

theorem RingInv.of_sameRing {s t : State} (h : RingInv s) (e : SameRing s t) : RingInv t := by
  obtain ⟨wf, below, wrLt, rdLt⟩ := h
  obtain ⟨hparams, hring, hwr, hrd⟩ := e
  constructor <;> simpa only [hparams, hring, hwr, hrd]

theorem StorageEmpty.ringInv {t : State} (h : StorageEmpty t) : RingInv t where
  wf := by rw [h.ring]; rfl
  below := by rw [h.ring]; rfl
  wrLt := by rw [h.wr]; exact ringSize_pos _
  rdLt := by rw [h.rd]; exact ringSize_pos _

/-- A write to an existing slot keeps the ring part. -/
theorem RingInv.ringWrite {s : State} (h : RingInv s) (c : BitVec 10) (v : Word) :
    RingInv (ringWrite s c v) where
  wf := Memory.wf_write _ v h.wf
  below := Memory.below_write _ v (slotOf_lt s c) h.below
  wrLt := h.wrLt
  rdLt := h.rdLt

theorem RingInv.normalWrite {s : State} (h : RingInv s) (now : Word) : RingInv (normalWrite s now) where
  wf := (h.ringWrite (nextSlot s s.wr) now).wf
  below := (h.ringWrite (nextSlot s s.wr) now).below
  wrLt := nextSlot_lt s s.wr
  rdLt := h.rdLt

theorem RingInv.takeEntry {s : State} (h : RingInv s) : RingInv (takeEntry s) where
  wf := h.wf
  below := h.below
  wrLt := h.wrLt
  rdLt := nextSlot_lt s s.rd

theorem RingInv.edgeStep {s : State} (h : RingInv s) (lvl : Bool) : RingInv (edgeStep lvl s) := by
  rcases edgeStep_ring_cases lvl s with hsame | ⟨_, hsame⟩ | ⟨_, hsame⟩
  · exact h.of_sameRing hsame
  · exact (h.ringWrite s.wr s.ts).of_sameRing hsame
  · exact (h.normalWrite s.ts).of_sameRing hsame

/-- The frame part speaks of the bits and their number; of `sync_cnt` only where there are bits. -/
theorem FrameInv.of_bits {s t : State} (h : FrameInv s) (hb : t.b = s.b) (hn : t.nbits = s.nbits)
    (hsync : t.nbits ≠ 0 → t.syncCnt ≠ 0) : FrameInv t where
  nbitsLt := hn ▸ h.nbitsLt
  syncBefore := hsync
  restZero k hk hmax := by rw [frameBit_eq_of_b hb]; exact h.restZero k (hn ▸ hk) hmax
  noneAcceptable n hle := by rw [framePrefix_eq_of_b hb]; exact h.noneAcceptable n (hn ▸ hle)

theorem FrameInv.of_sameFrame {s t : State} (h : FrameInv s) (e : SameFrame s t) : FrameInv t :=
  h.of_bits e.b e.nbits (by rw [e.nbits, e.syncCnt]; exact h.syncBefore)

/-- No bit is set in an empty frame, and no decoder accepts an empty list of bytes. -/
theorem frameInv_of_empty {t : State} (hn : t.nbits = 0) (hb : t.b = Vector.replicate 10 0) :
    FrameInv t where
  nbitsLt := by rw [hn]; decide
  syncBefore hne := absurd hn hne
  restZero k _ _ := by
    unfold frameBit frameByte
    rw [hb, Vector.getElem?_replicate]
    split <;> simp
  noneAcceptable n hle := by
    obtain rfl : n = 0 := by simpa [hn] using hle
    rfl

theorem frameInv_frameReset (s : State) : FrameInv (frameReset s) := frameInv_of_empty rfl rfl

/-- A stored bit keeps the frame part where the frame is not yet full and the complete bytes with it are none
that a decoder accepts (42_bit_assembler.md R174, R181). -/
theorem FrameInv.storeBit {s : State} (h : FrameInv s) (v : Bool) (hsync : s.syncCnt ≠ 0)
    (hlt : s.nbits.toNat + 1 < maxBits)
    (hnew : acceptable (framePrefix (storeBit v s) ((s.nbits.toNat + 1) / 8)) = false) :
    FrameInv (storeBit v s) := by
  have hn : (Machine.storeBit v s).nbits.toNat = s.nbits.toNat + 1 := storeBit_nbits_toNat v s h.nbitsLt
  refine ⟨hn ▸ hlt, fun _ => hsync, fun k hk hmax => ?_, fun n hle => ?_⟩
  · have hbit : k ≠ s.nbits.toNat := by omega
    rw [frameBit_storeBit v s h.nbitsLt k hmax, h.restZero k (by omega) hmax]
    simp [hbit]
  · rw [hn] at hle
    by_cases hold : n ≤ s.nbits.toNat / 8
    · rw [framePrefix_storeBit v s n hold]
      exact h.noneAcceptable n hold
    · obtain rfl : n = (s.nbits.toNat + 1) / 8 := by omega
      exact hnew

/-- A received bit keeps the frame part: inside a byte it completes nothing; at a byte boundary the bytes so
far are tried, and an accepted or a full frame is reset (42_bit_assembler.md R174 to R177). -/
theorem FrameInv.appendBit {s : State} (h : FrameInv s) (v : Bool) (hsync : s.syncCnt ≠ 0) :
    FrameInv (appendBit v s) := by
  have hlt := h.nbitsLt
  have hn : (Machine.storeBit v s).nbits.toNat = s.nbits.toNat + 1 := storeBit_nbits_toNat v s hlt
  unfold maxBits at hlt
  rcases appendBit_cases v s with ⟨hinside, ha⟩ | ⟨hboundary, ha⟩ <;> rw [ha]
  · rw [hn] at hinside
    have hsame : (s.nbits.toNat + 1) / 8 = s.nbits.toNat / 8 := by omega
    refine h.storeBit v hsync (by unfold maxBits; omega) ?_
    rw [hsame, framePrefix_storeBit v s _ le_rfl]
    exact h.noneAcceptable _ le_rfl
  · rw [hn] at hboundary ⊢
    rcases byteComplete_cases ((s.nbits.toNat + 1) / 8) (Machine.storeBit v s) with
      ⟨_, hc⟩ | ⟨_, _, hc⟩ | ⟨hnone, hnotMax, hc⟩ <;> rw [hc]
    · exact frameInv_frameReset _
    · exact frameInv_frameReset _
    · unfold maxBytes at hnotMax
      have hroom : s.nbits.toNat + 1 < maxBits := by unfold maxBits; omega
      exact (h.storeBit v hsync hroom hnone).of_sameFrame (decodeStep_decodeOnly _ _ _).sameFrame

/-- A pulse keeps the frame part, in each outcome of `BAS_PULSE` (42_bit_assembler.md R170). -/
theorem FrameInv.basPulse {s : State} (h : FrameInv s) (p : Level) (d : Word) :
    FrameInv (basPulse p d s) := by
  rcases basPulse_cases p d s with ⟨hnone, _, hb⟩ | ⟨v, _, _, _, hmin, hb⟩ | ⟨hnone, _, _, hb⟩ | ⟨_, _, hb⟩ |
    ⟨v, hbits, _, _, hb⟩ | ⟨_, _, _, hb⟩ <;> rw [hb]
  · exact h.of_bits rfl rfl fun hne => absurd hnone hne
  · refine h.appendBit v fun hzero => ?_
    simp [hzero] at hmin
  · exact h.of_bits (resetSync_b s) (resetSync_nbits s) fun hne => absurd (by simpa using hnone) hne
  · exact h
  · exact h.appendBit v (h.syncBefore hbits)
  · exact frameInv_frameReset _

theorem StorageEmpty.machineInv {t : State} (h : StorageEmpty t) : MachineInv t :=
  (machineInv_iff t).2 ⟨h.ringInv, frameInv_of_empty h.nbits h.b⟩

theorem MachineInv.of_same {s t : State} (h : MachineInv s) (hring : SameRing s t) (hframe : SameFrame s t) :
    MachineInv t := by
  obtain ⟨hr, hf⟩ := (machineInv_iff s).1 h
  exact (machineInv_iff t).2 ⟨hr.of_sameRing hring, hf.of_sameFrame hframe⟩

/-- Every operation that answers a next state keeps the invariant. -/
theorem exec_keeps_machineInv {i : Instr} {s t : State} (h : MachineInv s) (he : exec i s = .next t) :
    MachineInv t := by
  obtain ⟨hr, hf⟩ := (machineInv_iff s).1 h
  rcases (exec_effect he).storage_cases with ⟨lvl, _, rfl⟩ | ⟨_, _, rfl⟩ | ⟨_, p, d, _, rfl⟩ |
    ⟨_, hempty⟩ | ⟨hring, hframe⟩
  · exact (machineInv_iff _).2 ⟨hr.edgeStep lvl, hf.of_sameFrame (edgeStep_sameFrame lvl s)⟩
  · have hf' : FrameInv (takeEntry s) := hf.of_sameFrame ⟨rfl, rfl, rfl⟩
    exact (machineInv_iff _).2 ⟨hr.takeEntry.of_sameRing (basPulse_demOnly _ _ _).sameRing, hf'.basPulse _ _⟩
  · exact (machineInv_iff _).2 ⟨hr.of_sameRing (basPulse_demOnly p d s).sameRing, hf.basPulse p d⟩
  · exact hempty.machineInv
  · exact h.of_same hring hframe

/-- Settles O50: a step with no stimulus left changes nothing, and any other runs an operation on a state that
differs from `s` in the outputs and the stimuli only. -/
theorem everyStepKeepsTheInvariant : Obligations.EveryStepKeepsTheInvariant := by
  intro s t h hstep
  rcases step_cases hstep with ⟨_, rfl⟩ | ⟨w, rest, i, _, _, hexec⟩
  · exact h
  · have hbegin : MachineInv (beginStep s rest) := h.of_same ⟨rfl, rfl, rfl, rfl⟩ ⟨rfl, rfl, rfl⟩
    exact exec_keeps_machineInv hbegin hexec

end Sys2Proof.Machine
end

section
/-! The ring as a queue of unconsumed edges (10_state.md R26, 40_edge_capture.md R131, 41_pulse_classifier.md
R150). The unconsumed entries stand in the slots after `rd`, `ringCount` of them; a storing edge writes the
slot after the last or the last, `CONSUME` moves `rd` over the first. -/

namespace Sys2Proof.Machine

/-- A sum below twice the modulus is reduced by at most one subtraction. -/
theorem add_mod_cases {a b n : Nat} (ha : a < n) (hb : b ≤ n) :
    (a + b < n ∧ (a + b) % n = a + b) ∨ (n ≤ a + b ∧ (a + b) % n = a + b - n) := by
  rcases Nat.lt_or_ge (a + b) n with hlt | hge
  · exact .inl ⟨hlt, Nat.mod_eq_of_lt hlt⟩
  · exact .inr ⟨hge, by rw [Nat.mod_eq_sub_mod hge, Nat.mod_eq_of_lt (by omega)]⟩

/-- `ring_count` without a modulus (10_state.md R26). -/
theorem ringCount_cases {s : State} (h : RingInv s) :
    (s.rd.toNat ≤ s.wr.toNat ∧ ringCount s = s.wr.toNat - s.rd.toNat) ∨
    (s.wr.toNat < s.rd.toNat ∧ ringCount s = s.wr.toNat + s.params.ringSize - s.rd.toNat) := by
  have hrd := h.rdLt
  unfold ringCount
  rw [slotOf_of_lt hrd]
  have hmod := add_mod_cases h.wrLt (Nat.sub_le s.params.ringSize s.rd.toNat)
  omega

theorem ringCount_lt (s : State) : ringCount s < s.params.ringSize := Nat.mod_lt _ (ringSize_pos _)

/-- The next slot without a modulus (40_edge_capture.md R130). -/
theorem nextSlot_cases {s : State} {c : BitVec 10} (h : c.toNat < s.params.ringSize) :
    (c.toNat + 1 < s.params.ringSize ∧ (nextSlot s c).toNat = c.toNat + 1) ∨
    (c.toNat + 1 = s.params.ringSize ∧ (nextSlot s c).toNat = 0) := by
  rw [nextSlot_toNat]
  have hmod := add_mod_cases (b := 1) h (ringSize_pos s.params)
  omega

theorem ringEmpty_iff (s : State) : ringEmpty s = true ↔ s.rd.toNat = s.wr.toNat := by
  unfold ringEmpty
  rw [beq_iff_eq, BitVec.toNat_inj]

/-- The ring is empty exactly where it holds no entry (10_state.md R26). -/
theorem ringCount_eq_zero_iff {s : State} (h : RingInv s) : ringCount s = 0 ↔ ringEmpty s = true := by
  have hcount := ringCount_cases h
  have hrd := h.rdLt
  rw [ringEmpty_iff]
  omega

/-- The ring is full exactly where one more entry would make it look empty (10_state.md R26). -/
theorem ringCount_succ_eq_iff {s : State} (h : RingInv s) :
    ringCount s + 1 = s.params.ringSize ↔ ringFull s = true := by
  have hcount := ringCount_cases h
  have hnext := nextSlot_cases h.wrLt
  have hrd := h.rdLt
  rw [ringFull_iff, ← nextSlot_toNat]
  omega

/-- A normal write into a ring with room makes one entry more. -/
theorem ringCount_normalWrite {s : State} (h : RingInv s) (now : Word) (hroom : ringFull s = false) :
    ringCount (normalWrite s now) = ringCount s + 1 := by
  have hcount := ringCount_cases h
  have hcount' := ringCount_cases (h.normalWrite now)
  have hnext := nextSlot_cases h.wrLt
  have hlt : ringCount s + 1 ≠ s.params.ringSize := by simp [ringCount_succ_eq_iff h, hroom]
  have hrd := h.rdLt
  rw [normalWrite_wr, normalWrite_rd, normalWrite_params] at hcount'
  omega

/-- Taking an entry from a ring that is not empty leaves one entry less. -/
theorem ringCount_takeEntry {s : State} (h : RingInv s) (hsome : ringEmpty s = false) :
    ringCount s = ringCount (takeEntry s) + 1 := by
  have hcount := ringCount_cases h
  have hcount' := ringCount_cases h.takeEntry
  have hnext := nextSlot_cases h.rdLt
  have hne : ringCount s ≠ 0 := by simp [ringCount_eq_zero_iff h, hsome]
  have hwr := h.wrLt
  rw [takeEntry_rd, takeEntry_wr, takeEntry_params] at hcount'
  omega

/-- The slot of the `i`-th unconsumed entry, oldest first. -/
def entrySlot (s : State) (i : Nat) : Nat := (s.rd.toNat + 1 + i) % s.params.ringSize

theorem pending_eq (s : State) :
    pending s = (List.range (ringCount s)).map fun i => Memory.read s.ring (entrySlot s i) := rfl

theorem pending_length (s : State) : (pending s).length = ringCount s := by
  rw [pending_eq, List.length_map, List.length_range]

theorem pending_of_sameRing {s t : State} (e : SameRing s t) : pending t = pending s := by
  obtain ⟨hparams, hring, hwr, hrd⟩ := e
  have hcount : ringCount t = ringCount s := by unfold ringCount slotOf; rw [hparams, hwr, hrd]
  have hslot : entrySlot t = entrySlot s := by funext i; unfold entrySlot; rw [hparams, hrd]
  rw [pending_eq, pending_eq, hcount, hslot, hring]

/-- Entries less than a whole ring apart stand in different slots. -/
theorem entrySlot_ne {s : State} {i k : Nat} (hik : i < k) (hk : k < s.params.ringSize) :
    entrySlot s i ≠ entrySlot s k := by
  intro e
  have hmod : i ≡ k [MOD s.params.ringSize] := Nat.ModEq.add_left_cancel' _ e
  exact hik.ne (hmod.eq_of_lt_of_lt (hik.trans hk) hk)

/-- The slot after `wr` is the one after the last entry. -/
theorem nextSlot_wr_eq_entrySlot {s : State} (h : RingInv s) :
    (nextSlot s s.wr).toNat = entrySlot s (ringCount s) := by
  have hassoc : s.rd.toNat + 1 + ringCount s = s.rd.toNat + (ringCount s + 1) := by omega
  have hcount := ringCount_cases h
  have hnext := nextSlot_cases h.wrLt
  have hmod := add_mod_cases (b := ringCount s + 1) h.rdLt (ringCount_lt s)
  have hrd := h.rdLt
  unfold entrySlot
  rw [hassoc]
  omega

/-- `wr` is the slot of the last entry. -/
theorem wr_eq_entrySlot {s : State} (h : RingInv s) {m : Nat} (hm : ringCount s = m + 1) :
    s.wr.toNat = entrySlot s m := by
  have hassoc : s.rd.toNat + 1 + m = s.rd.toNat + ringCount s := by omega
  have hcount := ringCount_cases h
  have hmod := add_mod_cases h.rdLt (ringCount_lt s).le
  have hwr := h.wrLt
  unfold entrySlot
  rw [hassoc]
  omega

/-- A write to the slot of entry `k` leaves the entries before it (40_edge_capture.md R138). -/
theorem map_read_write_entrySlot {s : State} {k : Nat} (hk : k < s.params.ringSize) (v : Word) :
    ((List.range k).map fun i => Memory.read (Memory.write s.ring (entrySlot s k) v) (entrySlot s i)) =
      (List.range k).map fun i => Memory.read s.ring (entrySlot s i) :=
  List.map_congr_left fun _ hi => Memory.read_write_other v (entrySlot_ne (List.mem_range.1 hi) hk)

/-- A normal write into a ring with room appends an entry (40_edge_capture.md R131). -/
theorem pending_normalWrite {s : State} (h : RingInv s) (now : Word) (hroom : ringFull s = false) :
    pending (normalWrite s now) = pending s ++ [now] := by
  have hslot : slotOf s (nextSlot s s.wr) = entrySlot s (ringCount s) := by
    rw [slotOf_nextSlot, nextSlot_wr_eq_entrySlot h]
  have hentry : entrySlot (normalWrite s now) = entrySlot s := rfl
  rw [pending_eq, ringCount_normalWrite h now hroom, List.range_succ, List.map_append, normalWrite_ring, hslot,
    hentry, map_read_write_entrySlot (ringCount_lt s), ← pending_eq, List.map_singleton,
    Memory.read_write_same _ _ h.wf]

/-- A write to `wr` replaces the last entry (40_edge_capture.md R133). -/
theorem pending_ringWrite_wr {s : State} (h : RingInv s) (now : Word) {m : Nat} (hm : ringCount s = m + 1) :
    ∃ front last, pending s = front ++ [last] ∧ pending (ringWrite s s.wr now) = front ++ [now] := by
  have hslot : slotOf s s.wr = entrySlot s m := by rw [slotOf_of_lt h.wrLt, wr_eq_entrySlot h hm]
  have hentry : entrySlot (ringWrite s s.wr now) = entrySlot s := rfl
  have hcount : ringCount (ringWrite s s.wr now) = m + 1 := hm
  have hlt : m < s.params.ringSize := by have := ringCount_lt s; omega
  refine ⟨(List.range m).map fun i => Memory.read s.ring (entrySlot s i),
    Memory.read s.ring (entrySlot s m), ?_, ?_⟩
  · rw [pending_eq, hm, List.range_succ, List.map_append, List.map_singleton]
  · rw [pending_eq, hcount, List.range_succ, List.map_append, ringWrite_ring, hslot, hentry,
      map_read_write_entrySlot hlt, List.map_singleton, Memory.read_write_same _ _ h.wf]

/-- The entries after the first, counted from the cursor on the first. -/
theorem entrySlot_takeEntry (s : State) (i : Nat) : entrySlot (takeEntry s) i = entrySlot s (i + 1) := by
  unfold entrySlot
  rw [takeEntry_rd, nextSlot_toNat, takeEntry_params, Nat.add_assoc, Nat.mod_add_mod, Nat.add_comm i 1]

theorem consumedTs_eq (s : State) : consumedTs s = Memory.read s.ring (entrySlot s 0) := by
  unfold consumedTs ringRead
  rw [slotOf_nextSlot, nextSlot_toNat]
  rfl

/-- Taking an entry removes the first (41_pulse_classifier.md R150). -/
theorem pending_takeEntry {s : State} (h : RingInv s) (hsome : ringEmpty s = false) :
    pending s = consumedTs s :: pending (takeEntry s) := by
  rw [pending_eq, pending_eq, ringCount_takeEntry h hsome, List.range_succ_eq_map, List.map_cons,
    consumedTs_eq, List.map_map, takeEntry_ring]
  simp only [Function.comp_def, entrySlot_takeEntry]

/-- `EDGE` on the queue (40_edge_capture.md R131, R133, R135). -/
theorem pending_edgeStep {s : State} (h : RingInv s) (lvl : Bool) :
    pending (edgeStep lvl s) = pending s ∨
    (ringFull s = false ∧ pending (edgeStep lvl s) = pending s ++ [s.ts]) ∨
    (s.filt = true ∧ ∃ front last, pending s = front ++ [last] ∧
      pending (edgeStep lvl s) = front ++ [s.ts]) := by
  rcases edgeStep_ring_cases lvl s with hsame | ⟨hfilt, hsame⟩ | ⟨hroom, hsame⟩ <;>
    rw [pending_of_sameRing hsame]
  · exact .inl rfl
  · cases hcount : ringCount s with
    | zero =>
      have hcount' : ringCount (ringWrite s s.wr s.ts) = 0 := hcount
      exact .inl (by rw [pending_eq, pending_eq, hcount, hcount']; rfl)
    | succ m => exact .inr (.inr ⟨hfilt, pending_ringWrite_wr h s.ts hcount⟩)
  · exact .inr (.inl ⟨hroom, pending_normalWrite h s.ts hroom⟩)

/-- `CONSUME` on the queue: the first entry goes into `prev_ts` (41_pulse_classifier.md R150). -/
theorem pending_consume {s t : State} (h : RingInv s) (he : exec .consume s = .next t) :
    pending s = t.prevTs :: pending t := by
  cases exec_effect he with
  | consume _ henabled =>
    have hsome : ringEmpty s = false := by
      unfold consumeEnabled at henabled
      simpa using (Bool.and_eq_true_iff.1 henabled).2
    have hpulse := basPulse_demOnly (endedLevel (nextSlot s s.rd)) (consumedTs s - s.prevTs) (takeEntry s)
    rw [hpulse.prevTs, takeEntry_prevTs, pending_of_sameRing hpulse.sameRing, pending_takeEntry h hsome]
  | read _ _ _ hrow => exact absurd hrow.1 (by decide)
  | ignored _ _ hrow => exact absurd hrow.1 (by decide)
  | packet _ _ _ _ _ hrow => exact absurd hrow (by decide)

/-- Every operation but `EDGE`, `CONSUME` and the two resets leaves the ring and its cursors
(20_memory.md R68). -/
theorem exec_sameRing {i : Instr} {s t : State} (he : exec i s = .next t) (hedge : ∀ lvl, i ≠ .edge lvl)
    (hconsume : i ≠ .consume) (hreset : i ≠ .hwReset)
    (hsoft : ∀ v : Word, v.getLsbD 31 = true → i ≠ .wrCtrl v) : SameRing s t := by
  rcases (exec_effect he).storage_cases with ⟨lvl, hi, _⟩ | ⟨hi, _⟩ | ⟨_, p, d, _, rfl⟩ |
    ⟨hi | ⟨v, hv, hi⟩, _⟩ | ⟨hsame, _⟩
  · exact absurd hi (hedge lvl)
  · exact absurd hi hconsume
  · exact (basPulse_demOnly p d s).sameRing
  · exact absurd hi hreset
  · exact absurd hi (hsoft v hv)
  · exact hsame

/-- Settles O54, from what each writer of the ring does to the entries. -/
theorem ringIsAQueue : Obligations.RingIsAQueue := by
  intro s hinv
  have h : RingInv s := ((machineInv_iff s).1 hinv).1
  rw [pending_length]
  refine ⟨ringCount_lt s, ringCount_eq_zero_iff h, ringCount_succ_eq_iff h, fun lvl t he => ?_,
    fun t he => pending_consume h he,
    fun i t he hedge hconsume hreset hsoft =>
      pending_of_sameRing (exec_sameRing he hedge hconsume hreset hsoft)⟩
  cases he
  exact pending_edgeStep h lvl

end Sys2Proof.Machine
end

section
/-! The STATUS word (10_state.md R26, R35, R43). -/

namespace Sys2Proof.Machine

/-- The BAS state code: 0 with no bits and no sync count, 1 with no bits and a sync count, 2 with bits
(10_state.md R35). -/
theorem fsmCode_toNat_iff (s : State) :
    ((fsmCode s).toNat = 0 ↔ s.nbits.toNat = 0 ∧ s.syncCnt.toNat = 0) ∧
    ((fsmCode s).toNat = 1 ↔ s.nbits.toNat = 0 ∧ 0 < s.syncCnt.toNat) ∧
    ((fsmCode s).toNat = 2 ↔ 0 < s.nbits.toNat) := by
  unfold fsmCode
  split
  · next hbits =>
    split
    · next hsync => simp [hbits, hsync]
    · next hsync =>
      have hpos : s.syncCnt.toNat ≠ 0 := fun h => hsync (BitVec.eq_of_toNat_eq h)
      simp [hbits]
      omega
  · next hbits =>
    have hpos : s.nbits.toNat ≠ 0 := fun h => hbits (BitVec.eq_of_toNat_eq h)
    simp
    omega

/-- The STATUS word as a number: each flag times the weight of its bit (10_state.md R43). -/
theorem statusWord_toNat (s : State) : (statusWord s).toNat =
    s.ovf.toNat + 2 * s.resNew.toNat + 2 ^ 2 * (cfgOverlap s).toNat + 2 ^ 3 * s.ovfActive.toNat +
      2 ^ 4 * s.filt.toNat + 2 ^ 5 * (fsmCode s).toNat + 2 ^ 7 * (ringEmpty s).toNat +
      2 ^ 8 * (ringFull s).toNat := by
  unfold statusWord
  simp only [toNat_append_add, BitVec.toNat_ofBool, BitVec.toNat_ofNat]
  omega

/-- A bit read off the number. -/
theorem getLsbD_of_div_mod {n : Nat} {x : BitVec n} {i : Nat} {v : Bool} (h : x.toNat / 2 ^ i % 2 = v.toNat) :
    x.getLsbD i = v := by
  rw [← BitVec.testBit_toNat, Nat.testBit_eq_decide_div_mod_eq, h]
  cases v <;> rfl

/-- The fields of the STATUS word: the flags bit by bit, the BAS state code in bits 6:5, and no bit above 8
(10_state.md R43). -/
theorem statusWord_fields (s : State) :
    (statusWord s).getLsbD 0 = s.ovf ∧ (statusWord s).getLsbD 1 = s.resNew ∧
    (statusWord s).getLsbD 2 = cfgOverlap s ∧ (statusWord s).getLsbD 3 = s.ovfActive ∧
    (statusWord s).getLsbD 4 = s.filt ∧ (statusWord s).toNat / 2 ^ 5 % 4 = (fsmCode s).toNat ∧
    (statusWord s).getLsbD 7 = ringEmpty s ∧ (statusWord s).getLsbD 8 = ringFull s ∧
    (statusWord s).toNat < 2 ^ 9 := by
  have hword := statusWord_toNat s
  have hovf := s.ovf.toNat_le
  have hresNew := s.resNew.toNat_le
  have hoverlap := (cfgOverlap s).toNat_le
  have hactive := s.ovfActive.toNat_le
  have hfilt := s.filt.toNat_le
  have hfsm := (fsmCode s).isLt
  have hempty := (ringEmpty s).toNat_le
  have hfull := (ringFull s).toNat_le
  refine ⟨getLsbD_of_div_mod ?_, getLsbD_of_div_mod ?_, getLsbD_of_div_mod ?_, getLsbD_of_div_mod ?_,
    getLsbD_of_div_mod ?_, ?_, getLsbD_of_div_mod ?_, getLsbD_of_div_mod ?_, ?_⟩ <;> omega

/-- Settles O10: the word is `statusWord s`, its flags one by one, its state code as a number. -/
theorem statusReadShowsTheFlags : Obligations.StatusReadShowsTheFlags := by
  intro s
  obtain ⟨hovf, hresNew, hoverlap, hactive, hfilt, hfsm, hempty, hfull, hlt⟩ := statusWord_fields s
  obtain ⟨hawaiting, hcounting, hcollecting⟩ := fsmCode_toNat_iff s
  refine ⟨statusWord s, rfl, hovf, hresNew, hoverlap, hactive, hfilt, ?_, ?_, ?_, ?_, ?_, hlt⟩
  · rw [hfsm, hawaiting]
  · rw [hfsm, hcounting]
  · rw [hfsm, hcollecting]
  · rw [hempty, ringEmpty_iff]
  · rw [hfull, ringFull_iff]

end Sys2Proof.Machine
end

section
/-! `CFG_OVERLAP` (10_state.md R40). -/

namespace Sys2Proof.Machine

/-- Two bands that meet share the larger of their lower ends (10_state.md R40). -/
theorem bandsMeet_iff (s : State) (c d : BitVec 16) :
    bandsMeet s c d = true ↔ ∃ x : Int, InBand s c x ∧ InBand s d x := by
  simp only [bandsMeet, Bool.and_eq_true, decide_eq_true_eq, inBand_iff_between]
  constructor
  · rintro ⟨hcd, hdc⟩
    have hc : bandLo s c ≤ bandHi s c := by unfold bandLo bandHi; omega
    have hd : bandLo s d ≤ bandHi s d := by unfold bandLo bandHi; omega
    exact ⟨max (bandLo s c) (bandLo s d), by omega⟩
  · rintro ⟨x, ⟨hclo, hchi⟩, ⟨hdlo, hdhi⟩⟩
    omega

/-- `CFG_OVERLAP` reads the four timing registers only (10_state.md R40). -/
theorem cfgOverlap_congr {s s' : State} (hsync : s'.syncUs = s.syncUs) (hzero : s'.zeroUs = s.zeroUs)
    (hone : s'.oneUs = s.oneUs) (htol : s'.tolUs = s.tolUs) : cfgOverlap s' = cfgOverlap s := by
  unfold cfgOverlap bandsMeet bandLo bandHi
  rw [hsync, hzero, hone, htol]

/-- The band around `c` under the reset tolerance of 90 (10_state.md R39). -/
theorem inBand_resetWith_iff (p : Params) (c : BitVec 16) (x : Int) (hc : 90 ≤ c.toNat) :
    InBand (State.resetWith p) c x ↔ (c.toNat : Int) - 90 ≤ x ∧ x ≤ (c.toNat : Int) + 90 := by
  have htol : (State.resetWith p).tolUs.toNat = 90 := rfl
  unfold InBand
  omega

/-- Settles O28: the overlap is a disjunction over the three pairs of bands. -/
theorem configOverlapIsACommonPoint : Obligations.ConfigOverlapIsACommonPoint := by
  refine ⟨fun s => ?_, fun s s' => cfgOverlap_congr, fun p => ⟨rfl, fun x => ⟨?_, ?_, ?_⟩⟩⟩
  · simp only [cfgOverlap, Bool.or_eq_true, bandsMeet_iff, or_assoc]
  · exact inBand_resetWith_iff p 600 x (by decide)
  · exact inBand_resetWith_iff p 200 x (by decide)
  · exact inBand_resetWith_iff p 400 x (by decide)

end Sys2Proof.Machine
end

section
/-! The host reads (20_memory.md R63, 45_host_interface.md R260). -/

namespace Sys2Proof.Machine

/-- A read row answers with one word of the state, and that word does not depend on the read data of an earlier
read (20_memory.md R63). -/
theorem exec_read {i : Instr} (hrow : 10 ≤ rowNumber i ∧ rowNumber i ≤ 39) :
    ∃ word : State → Word, (∀ s, exec i s = .next (reply s (word s))) ∧
      ∀ s v, word (reply s v) = word s := by
  cases i
  case rdId | rdCtrl | rdStatus | rdRingPtr | rdFilterUs | rdSyncUs | rdZeroUs | rdOneUs | rdTolUs |
      rdSyncMin | rdTimer | rdPulseIn | rdDemod | rdPrevTs | rdOvfCount | rdCsumErrCount |
      rdParErrCount | rdFrameOkCount | rdResSeq | rdRes0 | rdRes1 | rdRes2 | rdRes3 | rdRes4 | rdRes5 |
      rdFrame0 | rdFrame1 | rdFrame2 | rdRingData | rdReserved =>
    exact ⟨_, fun _ => rfl, fun _ _ => rfl⟩
  all_goals simp [rowNumber] at hrow

theorem reply_reply (s : State) (v w : Word) : reply (reply s v) w = reply s w := rfl

/-- Settles O11: the second read finds the state of the first but for the read data, on which its word does not
depend. -/
theorem readsWriteNothingAndRepeat : Obligations.ReadsWriteNothingAndRepeat := by
  intro i s hlo hhi
  obtain ⟨word, hexec, hword⟩ := exec_read ⟨hlo, hhi⟩
  refine ⟨word s, hexec s, ?_⟩
  calc exec i (reply s (word s))
      = .next (reply (reply s (word s)) (word (reply s (word s)))) := hexec _
    _ = .next (reply s (word s)) := by rw [hword, reply_reply]

end Sys2Proof.Machine
end

section
/-! One producer and one consumer (20_memory.md R68): which operations write the capture state, the consumer's
state and the bit assembler's state. -/

namespace Sys2Proof.Machine

/-- The state that only CAP writes is the same (40_edge_capture.md R130, *Writes*). -/
def SameProducer (s t : State) : Prop :=
  t.ring = s.ring ∧ t.wr = s.wr ∧ t.filt = s.filt ∧ t.ovfActive = s.ovfActive

/-- The state that only `CONSUME` writes is the same (41_pulse_classifier.md R150, *Writes*). -/
def SameConsumer (s t : State) : Prop := t.rd = s.rd ∧ t.prevTs = s.prevTs

theorem DemOnly.sameProducer {s t : State} (h : DemOnly s t) : SameProducer s t := by
  unfold DemOnly at h
  refine ⟨?_, ?_, ?_, ?_⟩ <;> rw [h]

theorem DemOnly.sameConsumer {s t : State} (h : DemOnly s t) : SameConsumer s t :=
  ⟨h.sameRing.rd, h.prevTs⟩

theorem takeEntry_sameProducer (s : State) : SameProducer s (takeEntry s) := ⟨rfl, rfl, rfl, rfl⟩

theorem edgeStep_sameConsumer (lvl : Bool) (s : State) : SameConsumer s (edgeStep lvl s) := by
  constructor <;> rw [edgeStep_frame]

/-- Who writes what, by the kind of operation: `EDGE` the producer's state only, `CONSUME` not the producer's, a
`PULSE_IN` write neither the producer's nor the consumer's, and every other operation but the two resets none
of it (20_memory.md R68). -/
theorem Effect.writer_cases {i : Instr} {s t : State} (h : Effect i s t) :
    ((∃ lvl, i = .edge lvl) ∧ SameConsumer s t ∧ SameFrame s t) ∨
    (i = .consume ∧ SameProducer s t) ∨
    ((∃ v, i = .wrPulseIn v) ∧ SameProducer s t ∧ SameConsumer s t) ∨
    (i = .hwReset ∨ ∃ v : Word, v.getLsbD 31 = true ∧ i = .wrCtrl v) ∨
    (SameProducer s t ∧ SameConsumer s t ∧ SameFrame s t) := by
  cases h
  case edge lvl => exact .inl ⟨⟨lvl, rfl⟩, edgeStep_sameConsumer lvl s, edgeStep_sameFrame lvl s⟩
  case consume =>
    have hpulse := basPulse_demOnly (endedLevel (nextSlot s s.rd)) (consumedTs s - s.prevTs) (takeEntry s)
    exact .inr (.inl ⟨rfl, hpulse.sameProducer⟩)
  case pulse v p d _ _ =>
    have hpulse := basPulse_demOnly p d s
    exact .inr (.inr (.inl ⟨⟨v, rfl⟩, hpulse.sameProducer, hpulse.sameConsumer⟩))
  case hwReset => exact .inr (.inr (.inr (.inl (.inl rfl))))
  case softReset v hv => exact .inr (.inr (.inr (.inl (.inr ⟨v, hv, rfl⟩))))
  case packet f bs r _ =>
    have hdecode := validateAndAccept_decodeOnly f bs r .count s
    exact .inr (.inr (.inr (.inr
      ⟨hdecode.demOnly.sameProducer, hdecode.demOnly.sameConsumer, hdecode.sameFrame⟩)))
  all_goals exact .inr (.inr (.inr (.inr ⟨⟨rfl, rfl, rfl, rfl⟩, ⟨rfl, rfl⟩, ⟨rfl, rfl, rfl⟩⟩)))

/-- No operation writes the OPEN parameters, the resets included (00_scope.md R10). -/
theorem Effect.params {i : Instr} {s t : State} (h : Effect i s t) : t.params = s.params := by
  cases h
  case edge => rw [edgeStep_frame]
  case consume => exact (basPulse_demOnly _ _ (takeEntry s)).sameRing.params
  case pulse => exact (basPulse_demOnly _ _ s).sameRing.params
  case packet => exact (validateAndAccept_decodeOnly _ _ _ _ s).params
  all_goals rfl

/-- Settles O53: each writer keeps the state it does not own, and no reset is among the operations asked for. -/
theorem singleProducerSingleConsumer : Obligations.SingleProducerSingleConsumer := by
  intro i s t he
  refine ⟨(exec_effect he).params, fun hreset hsoft => ?_⟩
  rcases (exec_effect he).writer_cases with ⟨⟨lvl, hi⟩, hcons, hframe⟩ | ⟨hi, hprod⟩ |
    ⟨⟨v, hi⟩, hprod, hcons⟩ | (hi | ⟨v, hv, hi⟩) | ⟨hprod, hcons, hframe⟩
  · exact ⟨fun hedge => absurd hi (hedge lvl), fun _ => hcons,
      fun _ _ => ⟨hframe.syncCnt, hframe.nbits, hframe.b⟩⟩
  · exact ⟨fun _ => hprod, fun hconsume => absurd hi hconsume, fun hconsume _ => absurd hi hconsume⟩
  · exact ⟨fun _ => hprod, fun _ => hcons, fun _ hpulse => absurd hi (hpulse v)⟩
  · exact absurd hi hreset
  · exact absurd hi (hsoft v hv)
  · exact ⟨fun _ => hprod, fun _ => hcons, fun _ _ => ⟨hframe.syncCnt, hframe.nbits, hframe.b⟩⟩

end Sys2Proof.Machine
end

section
/-! The word behind the fields of a stimulus word (30_encoding.md R101): what a word built from a `KIND`, 28 bits and
`DATA` has in its fields, and how a word is put together again from fields that a row leaves free. -/

namespace Sys2Proof

/-- A field and the one bit below it are the field one bit longer. -/
theorem extractLsb'_append_bit {n : Nat} (x : BitVec n) (k m : Nat) :
    x.extractLsb' (k + 1) m ++ BitVec.ofBool (x.getLsbD k) = x.extractLsb' k (m + 1) := by
  rw [← BitVec.extractLsb'_append_extractLsb'_eq_extractLsb' (rfl : k + 1 = k + 1)]
  congr 1
  ext i hi
  simp [show i = 0 by omega]

/-- A field of a field is a field of the word. -/
theorem extractLsb'_extractLsb' {n s a t b : Nat} (x : BitVec n) (h : t + b ≤ a) :
    (x.extractLsb' s a).extractLsb' t b = x.extractLsb' (s + t) b := by
  ext i hi
  simp [show t + i < a by omega, Nat.add_assoc]

theorem stimOff_bit0 (w : StimWord) : (stimOff w).getLsbD 0 = w.getLsbD 32 := by simp [stimOff]

theorem stimOff_bit1 (w : StimWord) : (stimOff w).getLsbD 1 = w.getLsbD 33 := by simp [stimOff]

/-- The fields of a word whose bits [59:32] are one value. -/
theorem rawWord_fields (k : BitVec 4) (m : BitVec 28) (d : Word) :
    stimKind (k ++ (m ++ d)) = k ∧ (k ++ (m ++ d)).extractLsb' 32 28 = m ∧ stimData (k ++ (m ++ d)) = d := by
  refine ⟨BitVec.extractLsb'_append_eq_left, ?_, ?_⟩
  · rw [BitVec.extractLsb'_append_eq_of_add_le (by decide)]
    exact BitVec.extractLsb'_append_eq_left
  · unfold stimData BitVec.extractLsb
    rw [BitVec.extractLsb'_append_eq_of_add_le (by decide)]
    exact BitVec.extractLsb'_append_eq_right

theorem rawWord_eq (w : StimWord) : stimKind w ++ (w.extractLsb' 32 28 ++ stimData w) = w := by
  have hlow : w.extractLsb' 32 28 ++ stimData w = w.extractLsb' 0 60 :=
    BitVec.extractLsb'_append_extractLsb'_eq_extractLsb' rfl
  rw [hlow]
  exact BitVec.extractLsb'_append_extractLsb' (w := 4) (len := 60)

/-- The encoder's word for an operation with no free bit above `DATA` but `OFF`. -/
theorem stim_eq {k : BitVec 4} {o : BitVec 13} {d : Word} {w : StimWord} (hk : stimKind w = k)
    (hz : stimZero w = 0) (ho : stimOff w = o) (hd : stimData w = d) : stim k o d = .stimulus w := by
  rw [← stim_fields w, hk, hz, ho, hd]
  rfl

/-- The encoder's word for an access with `OFF[0] = 1`. -/
theorem rawStim_bit0 {k : BitVec 4} {w : StimWord} (hk : stimKind w = k)
    (h0 : (stimOff w).getLsbD 0 = true) :
    rawStim k (w.extractLsb 59 33 ++ 1#1 ++ stimData w) = .stimulus w := by
  have hmid := extractLsb'_append_bit w 32 27
  rw [← stimOff_bit0, h0] at hmid
  exact congrArg Code.stimulus (by rw [show w.extractLsb 59 33 ++ 1#1 = _ from hmid, ← hk, rawWord_eq])

/-- The encoder's word for an access with `OFF[1] = 1` and `OFF[0] = 0`. -/
theorem rawStim_bit1 {k : BitVec 4} {w : StimWord} (hk : stimKind w = k)
    (h0 : (stimOff w).getLsbD 0 = false) (h1 : (stimOff w).getLsbD 1 = true) :
    rawStim k (w.extractLsb 59 34 ++ 1#1 ++ 0#1 ++ stimData w) = .stimulus w := by
  have hhigh := extractLsb'_append_bit w 33 26
  have hmid := extractLsb'_append_bit w 32 27
  rw [← stimOff_bit1, h1] at hhigh
  rw [← stimOff_bit0, h0] at hmid
  exact congrArg Code.stimulus (by
    rw [show w.extractLsb 59 34 ++ 1#1 = _ from hhigh, show w.extractLsb' 33 27 ++ 0#1 = _ from hmid, ← hk,
      rawWord_eq])

theorem misaligned_bit0 {w : StimWord} {r : BitVec 27} (hm : w.extractLsb' 32 28 = r ++ 1#1) :
    (stimOff w).getLsbD 0 = true ∧ w.extractLsb 59 33 = r := by
  constructor
  · have h : (w.extractLsb' 32 28).getLsbD 0 = true := by rw [hm]; exact BitVec.getLsbD_append.trans rfl
    simpa [stimOff] using h
  · have h : (w.extractLsb' 32 28).extractLsb' 1 27 = r := by
      rw [hm]; exact BitVec.extractLsb'_append_eq_left
    rwa [extractLsb'_extractLsb' w (by decide)] at h

theorem misaligned_bit1 {w : StimWord} {r : BitVec 26} (hm : w.extractLsb' 32 28 = r ++ 1#1 ++ 0#1) :
    (stimOff w).getLsbD 0 = false ∧ (stimOff w).getLsbD 1 = true ∧ w.extractLsb 59 34 = r := by
  refine ⟨?_, ?_, ?_⟩
  · have h : (w.extractLsb' 32 28).getLsbD 0 = false := by rw [hm]; exact BitVec.getLsbD_append.trans rfl
    simpa [stimOff] using h
  · have h : (w.extractLsb' 32 28).getLsbD 1 = true := by
      rw [hm]; exact BitVec.getLsbD_append.trans (BitVec.getLsbD_append.trans rfl)
    simpa [stimOff] using h
  · have h : (w.extractLsb' 32 28).extractLsb' 2 26 = r := by
      rw [hm, BitVec.extractLsb'_append_eq_of_le (by decide)]
      exact BitVec.extractLsb'_append_eq_left
    rwa [extractLsb'_extractLsb' w (by decide)] at h

/-- The kinds that have a decoder of their own, then the two groups of reserved kinds
(45_host_interface.md R267). -/
theorem kind_cases (k : BitVec 4) :
    k = 0 ∨ k = 1 ∨ k = 2 ∨ k = 3 ∨ k = 4 ∨ k = 5 ∨ (k = 6 ∨ k = 7) ∨ k.getLsbD 3 = true := by
  decide +revert

theorem kind6to7_iff (w : StimWord) : stimKind w = 6 ∨ stimKind w = 7 ↔ w.extractLsb' 61 3 = 3#3 := by
  have hkind : ∀ k : BitVec 4, k = 6 ∨ k = 7 ↔ k.extractLsb' 1 3 = 3#3 := by decide
  have htop : (stimKind w).extractLsb' 1 3 = w.extractLsb' 61 3 := extractLsb'_extractLsb' w (by decide)
  rw [hkind, htop]

theorem decodeStimulus_kind6to7 {w : StimWord} (hk : stimKind w = 6 ∨ stimKind w = 7) :
    decodeStimulus w = .ok (.refusedKind6to7 (w.extractLsb 60 0)) := by
  unfold decodeStimulus
  rw [getLsbD_63]
  rcases hk with hk | hk <;> rw [hk] <;> rfl

theorem decodeStimulus_kind8to15 {w : StimWord} (hk : (stimKind w).getLsbD 3 = true) :
    decodeStimulus w = .ok (.refusedKind8to15 (w.extractLsb 62 0)) := by
  unfold decodeStimulus
  rw [getLsbD_63, if_pos hk]

end Sys2Proof
end

section
/-! The offsets of the register map and the rows they select (10_state.md R42, 30_encoding.md R103): a register's
row, else the `RING_DATA` window's, else the reserved one. -/

namespace Sys2Proof

theorem aligned_iff (o : BitVec 13) :
    o.extractLsb 1 0 = 0#2 ↔ o.getLsbD 0 = false ∧ o.getLsbD 1 = false := by
  constructor
  · intro h
    have hbit : ∀ i, (o.extractLsb 1 0).getLsbD i = false := fun i => by rw [h]; simp
    exact ⟨by simpa using hbit 0, by simpa using hbit 1⟩
  · rintro ⟨h0, h1⟩
    ext i hi
    interval_cases i
    · simpa using h0
    · simpa using h1

/-- An aligned offset of the ring window is the window's base and its index. -/
theorem ringOffset_eq {o : BitVec 13} (h12 : o.getLsbD 12 = true) (ha : o.extractLsb 1 0 = 0#2) :
    1#1 ++ o.extractLsb 11 2 ++ 0#2 = o := by
  have htop : o.extractLsb' 12 1 = 1#1 := by
    ext i hi
    simpa [show i = 0 by omega] using h12
  have hhigh : 1#1 ++ o.extractLsb 11 2 = o.extractLsb' 2 11 := by
    rw [← htop]
    exact BitVec.extractLsb'_append_extractLsb'_eq_extractLsb' rfl
  rw [hhigh, ← ha]
  exact BitVec.extractLsb'_append_extractLsb' (w := 11) (len := 2)

theorem reservedOffset_iff (o : BitVec 13) :
    reservedOffset o = true ↔ o.extractLsb 1 0 = 0#2 ∧ o.getLsbD 12 = false ∧ o ∉ namedOffsets := by
  simp [reservedOffset, and_assoc]

/-- No register stands in the ring window (10_state.md R42). -/
theorem not_named_of_window {o : BitVec 13} (h12 : o.getLsbD 12 = true) : o ∉ namedOffsets := by
  have hbelow : namedOffsets.all (fun o => !o.getLsbD 12) = true := rfl
  intro hmem
  have hbit := List.all_eq_true.mp hbelow o hmem
  rw [h12] at hbit
  cases hbit

theorem lookup_eq_none_iff_not_mem {α β : Type} [BEq α] [LawfulBEq α] {l : List (α × β)} {a : α} :
    l.lookup a = none ↔ a ∉ l.map (·.1) := by
  simp only [List.lookup_eq_none_iff, List.mem_map, bne_iff_ne, not_exists, not_and]
  exact ⟨fun h p hp e => h p hp e.symm, fun h p hp e => h p hp e.symm⟩

theorem mem_of_lookup {α β : Type} [BEq α] [LawfulBEq α] {l : List (α × β)} {a : α} {b : β}
    (h : l.lookup a = some b) : (a, b) ∈ l := by
  obtain ⟨l₁, l₂, rfl, -⟩ := List.lookup_eq_some_iff.mp h
  simp

theorem readRows_lookup_eq_none {o : BitVec 13} : readRows.lookup o = none ↔ o ∉ namedOffsets :=
  lookup_eq_none_iff_not_mem

theorem writeRows_lookup_eq_none {o : BitVec 13} : writeRows.lookup o = none ↔ o ∉ namedOffsets :=
  lookup_eq_none_iff_not_mem

theorem readRow_of_lookup {o : BitVec 13} {i : Instr} (h : readRows.lookup o = some i) : readRow o = i := by
  unfold readRow; rw [h]

theorem readRow_window {o : BitVec 13} (h12 : o.getLsbD 12 = true) :
    readRow o = .rdRingData (o.extractLsb 11 2) := by
  unfold readRow; rw [readRows_lookup_eq_none.mpr (not_named_of_window h12), h12]; rfl

theorem readRow_reserved {o : BitVec 13} (hn : o ∉ namedOffsets) (h12 : o.getLsbD 12 = false) :
    readRow o = .rdReserved o := by
  unfold readRow; rw [readRows_lookup_eq_none.mpr hn, h12]; rfl

theorem writeRow_of_lookup {o : BitVec 13} {f : Word → Instr} (h : writeRows.lookup o = some f) (v : Word) :
    writeRow o v = f v := by
  unfold writeRow; rw [h]

theorem writeRow_window {o : BitVec 13} (h12 : o.getLsbD 12 = true) (v : Word) :
    writeRow o v = .wrRingData (o.extractLsb 11 2) v := by
  unfold writeRow; rw [writeRows_lookup_eq_none.mpr (not_named_of_window h12), h12]; rfl

theorem writeRow_reserved {o : BitVec 13} (hn : o ∉ namedOffsets) (h12 : o.getLsbD 12 = false) (v : Word) :
    writeRow o v = .wrReserved o v := by
  unfold writeRow; rw [writeRows_lookup_eq_none.mpr hn, h12]; rfl

end Sys2Proof
end

section
/-! Encoding after decoding. Each decoder of a `KIND` has tested every bit that is no operand, so the word is what
the encoder writes for the operation it answers; a frame is its own encoding. -/

namespace Sys2Proof

open Machine

/-- `c` is the code of the well-formed operation `i`. -/
def Encodes (i : Instr) (c : Code) : Prop := WellFormed i = true ∧ encode i = c

theorem readRows_encode : ∀ p ∈ readRows, Encodes p.2 (stim 3 p.1 0) := by
  have hwf : readRows.map (fun p => WellFormed p.2) = readRows.map (fun _ => true) := rfl
  have henc : readRows.map (fun p => encode p.2) = readRows.map (fun p => stim 3 p.1 0) := rfl
  exact fun p hp => ⟨List.map_inj_left.mp hwf p hp, List.map_inj_left.mp henc p hp⟩

theorem writeRows_encode (v : Word) : ∀ p ∈ writeRows, Encodes (p.2 v) (stim 4 p.1 v) := by
  have hwf : writeRows.map (fun p => WellFormed (p.2 v)) = writeRows.map (fun _ => true) := rfl
  have henc : writeRows.map (fun p => encode (p.2 v)) = writeRows.map (fun p => stim 4 p.1 v) := rfl
  exact fun p hp => ⟨List.map_inj_left.mp hwf p hp, List.map_inj_left.mp henc p hp⟩

theorem packetRows_encode (bs : List Byte) : ∀ r ∈ packetRows,
    WellFormed (r.build bs) = packetShape (fmtRom r.fmt).len r.code bs ∧ encode (r.build bs) = .frame bs := by
  have hwf : packetRows.map (fun r => WellFormed (r.build bs)) =
      packetRows.map (fun r => packetShape (fmtRom r.fmt).len r.code bs) := rfl
  have henc : packetRows.map (fun r => encode (r.build bs)) = packetRows.map (fun _ => Code.frame bs) := rfl
  exact fun r hr => ⟨List.map_inj_left.mp hwf r hr, List.map_inj_left.mp henc r hr⟩

theorem readRow_encodes {o : BitVec 13} (ha : o.extractLsb 1 0 = 0#2) :
    Encodes (readRow o) (stim 3 o 0) := by
  cases hrow : readRows.lookup o with
  | some i =>
    rw [readRow_of_lookup hrow]
    exact readRows_encode _ (mem_of_lookup hrow)
  | none =>
    have hn := readRows_lookup_eq_none.mp hrow
    cases h12 : o.getLsbD 12
    · rw [readRow_reserved hn h12]
      exact ⟨(reservedOffset_iff o).mpr ⟨ha, h12, hn⟩, rfl⟩
    · rw [readRow_window h12]
      exact ⟨rfl, congrArg (stim 3 · 0) (ringOffset_eq h12 ha)⟩

theorem writeRow_encodes {o : BitVec 13} (v : Word) (ha : o.extractLsb 1 0 = 0#2) :
    Encodes (writeRow o v) (stim 4 o v) := by
  cases hrow : writeRows.lookup o with
  | some f =>
    rw [writeRow_of_lookup hrow]
    exact writeRows_encode v _ (mem_of_lookup hrow)
  | none =>
    have hn := writeRows_lookup_eq_none.mp hrow
    cases h12 : o.getLsbD 12
    · rw [writeRow_reserved hn h12]
      exact ⟨(reservedOffset_iff o).mpr ⟨ha, h12, hn⟩, rfl⟩
    · rw [writeRow_window h12]
      exact ⟨rfl, congrArg (stim 4 · v) (ringOffset_eq h12 ha)⟩

theorem decodeTick_encodes {w : StimWord} {i : Instr} (hk : stimKind w = 0) (h : decodeTick w = .ok i) :
    Encodes i (.stimulus w) := by
  unfold decodeTick at h
  split_ifs at h with hz ho
  cases h
  exact ⟨rfl, stim_eq hk (not_not.mp hz) (not_not.mp ho) rfl⟩

/-- `DATA` of an `EDGE` word with `DATA[31:1] = 0` is the level (30_encoding.md R101). -/
theorem word_eq_level {d : Word} (hd : d.extractLsb 31 1 = 0) : d = if d.getLsbD 0 then 1 else 0 := by
  have hbit := extractLsb'_append_bit d 0 31
  rw [show d.extractLsb' (0 + 1) 31 = 0 from hd, BitVec.extractLsb'_eq_self] at hbit
  rw [← hbit]
  cases d.getLsbD 0 <;> rfl

theorem decodeEdge_encodes {w : StimWord} {i : Instr} (hk : stimKind w = 1) (h : decodeEdge w = .ok i) :
    Encodes i (.stimulus w) := by
  unfold decodeEdge at h
  split_ifs at h with hz ho hd
  cases h
  exact ⟨rfl, stim_eq hk (not_not.mp hz) (not_not.mp ho) (word_eq_level (not_not.mp hd))⟩

/-- `CONSUME` and `HW_RESET`, whose words have every bit below `KIND` 0. -/
theorem decodePlain_encodes {w : StimWord} {i j : Instr} {k : BitVec 4} (hk : stimKind w = k)
    (hj : Encodes j (stim k 0 0)) (h : decodePlain j w = .ok i) : Encodes i (.stimulus w) := by
  obtain ⟨hwf, henc⟩ := hj
  unfold decodePlain at h
  split_ifs at h with hz ho hd
  cases h
  exact ⟨hwf, henc.trans (stim_eq hk (not_not.mp hz) (not_not.mp ho) (not_not.mp hd))⟩

theorem decodeRead_encodes {w : StimWord} {i : Instr} (hk : stimKind w = 3) (h : decodeRead w = .ok i) :
    Encodes i (.stimulus w) := by
  unfold decodeRead at h
  split_ifs at h with h0 h1 hz hd <;> cases h
  · exact ⟨rfl, rawStim_bit0 hk h0⟩
  · exact ⟨rfl, rawStim_bit1 hk (by simpa using h0) h1⟩
  · have ha := (aligned_iff (stimOff w)).mpr ⟨by simpa using h0, by simpa using h1⟩
    rw [← stim_eq hk (not_not.mp hz) rfl (not_not.mp hd)]
    exact readRow_encodes ha

theorem decodeWrite_encodes {w : StimWord} {i : Instr} (hk : stimKind w = 4) (h : decodeWrite w = .ok i) :
    Encodes i (.stimulus w) := by
  unfold decodeWrite at h
  split_ifs at h with h0 h1 hz <;> cases h
  · exact ⟨rfl, rawStim_bit0 hk h0⟩
  · exact ⟨rfl, rawStim_bit1 hk (by simpa using h0) h1⟩
  · have ha := (aligned_iff (stimOff w)).mpr ⟨by simpa using h0, by simpa using h1⟩
    rw [← stim_eq hk (not_not.mp hz) rfl rfl]
    exact writeRow_encodes _ ha

theorem encode_kind6to7 {w : StimWord} (hk : stimKind w = 6 ∨ stimKind w = 7) :
    encode (.refusedKind6to7 (w.extractLsb 60 0)) = .stimulus w := by
  have htop := (kind6to7_iff w).mp hk
  exact congrArg Code.stimulus (htop ▸ BitVec.extractLsb'_append_extractLsb' (w := 3) (len := 61))

theorem encode_kind8to15 {w : StimWord} (hk : (stimKind w).getLsbD 3 = true) :
    encode (.refusedKind8to15 (w.extractLsb 62 0)) = .stimulus w := by
  have htop : w.extractLsb' 63 1 = 1#1 := by
    rw [← getLsbD_63] at hk
    ext i hi
    simpa [show i = 0 by omega] using hk
  exact congrArg Code.stimulus (htop ▸ BitVec.extractLsb'_append_extractLsb' (w := 1) (len := 63))

theorem decodeStimulus_encodes {w : StimWord} {i : Instr} (h : decodeStimulus w = .ok i) :
    Encodes i (.stimulus w) := by
  rcases kind_cases (stimKind w) with hk | hk | hk | hk | hk | hk | hk | hk
  · exact decodeTick_encodes hk (decodeStimulus_tick hk ▸ h)
  · exact decodeEdge_encodes hk (decodeStimulus_edge hk ▸ h)
  · exact decodePlain_encodes hk ⟨rfl, rfl⟩ (decodeStimulus_consume hk ▸ h)
  · exact decodeRead_encodes hk (decodeStimulus_read hk ▸ h)
  · exact decodeWrite_encodes hk (decodeStimulus_write hk ▸ h)
  · exact decodePlain_encodes hk ⟨rfl, rfl⟩ (decodeStimulus_hwReset hk ▸ h)
  · cases (decodeStimulus_kind6to7 hk).symm.trans h
    exact ⟨rfl, encode_kind6to7 hk⟩
  · cases (decodeStimulus_kind8to15 hk).symm.trans h
    exact ⟨rfl, encode_kind8to15 hk⟩

theorem decodeFrame_encodes {bs : List Byte} {i : Instr} (h : decodeFrame bs = .ok i) :
    Encodes i (.frame bs) := by
  unfold decodeFrame at h
  split at h
  · next r hfind =>
    cases h
    obtain ⟨hwf, henc⟩ := packetRows_encode bs r (List.mem_of_find?_eq_some hfind)
    have hrow := List.find?_some hfind
    simp only [Bool.and_eq_true, beq_iff_eq] at hrow
    obtain ⟨hlen, hcode⟩ := hrow
    refine ⟨?_, henc⟩
    rw [hwf, packetShape, hlen, hcode]
    simp [mtype]
  · cases h

/-- Settles O4: a word by its `KIND`, a frame by its packet row. -/
theorem encodeOfDecodeIsIdentity : Obligations.EncodeOfDecodeIsIdentity := by
  intro c i h
  cases c with
  | stimulus w => exact decodeStimulus_encodes h
  | frame bs => exact decodeFrame_encodes h

end Sys2Proof
end

section
/-! Decoding after encoding: what the decoder answers on each shape of word the encoder writes, and on a packet. -/

namespace Sys2Proof

open Machine

theorem decode_tick (d : Word) : decode (stim 0 0 d) = .ok (.tick d) := by
  have hk := stimKind_append 0 0 0 d
  have hz := stimZero_append 0 0 0 d
  have ho := stimOff_append 0 0 0 d
  have hd := stimData_append 0 0 0 d
  change decodeStimulus _ = _
  generalize 0#4 ++ 0#15 ++ 0#13 ++ d = w at *
  rw [decodeStimulus_tick hk, decodeTick, hz, ho, hd]
  rfl

theorem decodeRead_bit0 {w : StimWord} (h0 : (stimOff w).getLsbD 0 = true) :
    decodeRead w = .ok (.refusedRdMisalignedBit0 (w.extractLsb 59 33) (stimData w)) := if_pos h0

theorem decodeRead_bit1 {w : StimWord} (h0 : (stimOff w).getLsbD 0 = false)
    (h1 : (stimOff w).getLsbD 1 = true) :
    decodeRead w = .ok (.refusedRdMisalignedBit1 (w.extractLsb 59 34) (stimData w)) := by
  unfold decodeRead
  rw [h0, h1]; rfl

theorem decodeWrite_bit0 {w : StimWord} (h0 : (stimOff w).getLsbD 0 = true) :
    decodeWrite w = .ok (.refusedWrMisalignedBit0 (w.extractLsb 59 33) (stimData w)) := if_pos h0

theorem decodeWrite_bit1 {w : StimWord} (h0 : (stimOff w).getLsbD 0 = false)
    (h1 : (stimOff w).getLsbD 1 = true) :
    decodeWrite w = .ok (.refusedWrMisalignedBit1 (w.extractLsb 59 34) (stimData w)) := by
  unfold decodeWrite
  rw [h0, h1]; rfl

/-- An access with `OFF[0] = 1` (45_host_interface.md R267). -/
theorem decode_misaligned_bit0 (r : BitVec 27) (d : Word) :
    decode (rawStim 3 (r ++ 1#1 ++ d)) = .ok (.refusedRdMisalignedBit0 r d) ∧
    decode (rawStim 4 (r ++ 1#1 ++ d)) = .ok (.refusedWrMisalignedBit0 r d) := by
  constructor
  · obtain ⟨hk, hm, hd⟩ := rawWord_fields 3 (r ++ 1#1) d
    obtain ⟨h0, hr⟩ := misaligned_bit0 hm
    exact (decodeStimulus_read hk).trans ((decodeRead_bit0 h0).trans (by rw [hr, hd]))
  · obtain ⟨hk, hm, hd⟩ := rawWord_fields 4 (r ++ 1#1) d
    obtain ⟨h0, hr⟩ := misaligned_bit0 hm
    exact (decodeStimulus_write hk).trans ((decodeWrite_bit0 h0).trans (by rw [hr, hd]))

/-- An access with `OFF[1] = 1` and `OFF[0] = 0` (45_host_interface.md R267). -/
theorem decode_misaligned_bit1 (r : BitVec 26) (d : Word) :
    decode (rawStim 3 (r ++ 1#1 ++ 0#1 ++ d)) = .ok (.refusedRdMisalignedBit1 r d) ∧
    decode (rawStim 4 (r ++ 1#1 ++ 0#1 ++ d)) = .ok (.refusedWrMisalignedBit1 r d) := by
  constructor
  · obtain ⟨hk, hm, hd⟩ := rawWord_fields 3 (r ++ 1#1 ++ 0#1) d
    obtain ⟨h0, h1, hr⟩ := misaligned_bit1 hm
    exact (decodeStimulus_read hk).trans ((decodeRead_bit1 h0 h1).trans (by rw [hr, hd]))
  · obtain ⟨hk, hm, hd⟩ := rawWord_fields 4 (r ++ 1#1 ++ 0#1) d
    obtain ⟨h0, h1, hr⟩ := misaligned_bit1 hm
    exact (decodeStimulus_write hk).trans ((decodeWrite_bit1 h0 h1).trans (by rw [hr, hd]))

theorem decode_kind6to7 (r : BitVec 61) : decode (.stimulus (3#3 ++ r)) = .ok (.refusedKind6to7 r) := by
  have hkind := (kind6to7_iff (3#3 ++ r)).mpr BitVec.extractLsb'_append_eq_left
  have hlow : (3#3 ++ r).extractLsb 60 0 = r := BitVec.extractLsb'_append_eq_right
  exact (decodeStimulus_kind6to7 hkind).trans (by rw [hlow])

theorem decode_kind8to15 (r : BitVec 63) : decode (.stimulus (1#1 ++ r)) = .ok (.refusedKind8to15 r) := by
  have htop : (1#1 ++ r).getLsbD 63 = true := BitVec.getLsbD_append.trans rfl
  have hlow : (1#1 ++ r).extractLsb 62 0 = r := BitVec.extractLsb'_append_eq_right
  exact (if_pos htop).trans (by rw [hlow])

/-- A read and a write at an offset of the ring window (20_memory.md R61). -/
theorem decode_ringOffset (i : BitVec 10) (d : Word) :
    decode (stim 3 (1#1 ++ i ++ 0#2) 0) = .ok (.rdRingData i) ∧
    decode (stim 4 (1#1 ++ i ++ 0#2) d) = .ok (.wrRingData i d) := by
  have h0 : (1#1 ++ i ++ 0#2).getLsbD 0 = false := BitVec.getLsbD_append.trans rfl
  have h1 : (1#1 ++ i ++ 0#2).getLsbD 1 = false := BitVec.getLsbD_append.trans rfl
  have h12 : (1#1 ++ i ++ 0#2).getLsbD 12 = true :=
    BitVec.getLsbD_append.trans (BitVec.getLsbD_append.trans rfl)
  have hi : (1#1 ++ i ++ 0#2).extractLsb 11 2 = i := by
    unfold BitVec.extractLsb
    rw [BitVec.extractLsb'_append_eq_of_le (by decide)]
    exact BitVec.extractLsb'_append_eq_right
  rw [decode_read _ h0 h1, decode_write _ d h0 h1, readRow_window h12, writeRow_window h12, hi]
  exact ⟨rfl, rfl⟩

/-- A read and a write at a reserved offset (10_state.md R42). -/
theorem decode_reservedOffset {o : BitVec 13} (h : reservedOffset o = true) (d : Word) :
    decode (stim 3 o 0) = .ok (.rdReserved o) ∧ decode (stim 4 o d) = .ok (.wrReserved o d) := by
  obtain ⟨ha, h12, hn⟩ := (reservedOffset_iff o).mp h
  obtain ⟨h0, h1⟩ := (aligned_iff o).mp ha
  rw [decode_read o h0 h1, decode_write o d h0 h1, readRow_reserved hn h12, writeRow_reserved hn h12]
  exact ⟨rfl, rfl⟩

/-- The row of a packet is found by its length and its `MTYPE` alone (30_encoding.md R91). -/
theorem decodeFrame_of_shape {len : Nat} {code : BitVec 6} {bs : List Byte} {i : Instr}
    (h : packetShape len code bs = true)
    (hi : (packetRows.find? (fun r => (fmtRom r.fmt).len == len && r.code == code)).map (·.build bs) = some i) :
    decodeFrame bs = .ok i := by
  simp only [packetShape, Bool.and_eq_true, beq_iff_eq] at h
  obtain ⟨hlen, hcode⟩ := h
  obtain ⟨r, hr, rfl⟩ := Option.map_eq_some_iff.mp hi
  unfold decodeFrame
  rw [hlen, mtype, hcode, hr]

/-- Settles O3, by the shape of word or packet that each operation is encoded in. -/
theorem decodeOfEncodeIsIdentity : Obligations.DecodeOfEncodeIsIdentity := by
  intro i h
  cases i
  case refusedRdMisalignedBit0 r d => exact (decode_misaligned_bit0 r d).1
  case refusedRdMisalignedBit1 r d => exact (decode_misaligned_bit1 r d).1
  case refusedWrMisalignedBit0 r d => exact (decode_misaligned_bit0 r d).2
  case refusedWrMisalignedBit1 r d => exact (decode_misaligned_bit1 r d).2
  case refusedKind6to7 r => exact decode_kind6to7 r
  case refusedKind8to15 r => exact decode_kind8to15 r
  case tick k => exact decode_tick k
  case edge lvl => cases lvl <;> rfl
  case consume | hwReset => rfl
  case rdRingData i => exact (decode_ringOffset i 0).1
  case wrRingData i v => exact (decode_ringOffset i v).2
  case rdReserved off => exact (decode_reservedOffset h 0).1
  case wrReserved off v => exact (decode_reservedOffset h v).2
  case pktTower | pktRain | pktLtng | pktAtlas05 | pktAtlas06 | pktAtlas07 | pktAtlas25 | pktAtlas26 |
      pktAtlas27 | pktNotos | pktIris31 | pktIris38 =>
    exact decodeFrame_of_shape h rfl
  case rdId | rdCtrl | rdStatus | rdRingPtr | rdFilterUs | rdSyncUs | rdZeroUs | rdOneUs | rdTolUs | rdSyncMin |
      rdTimer | rdPulseIn | rdDemod | rdPrevTs | rdOvfCount | rdCsumErrCount | rdParErrCount | rdFrameOkCount |
      rdResSeq | rdRes0 | rdRes1 | rdRes2 | rdRes3 | rdRes4 | rdRes5 | rdFrame0 | rdFrame1 | rdFrame2 =>
    exact decode_read _ rfl rfl
  case wrId | wrCtrl | wrStatus | wrRingPtr | wrFilterUs | wrSyncUs | wrZeroUs | wrOneUs | wrTolUs | wrSyncMin |
      wrTimer | wrPulseIn | wrDemod | wrPrevTs | wrOvfCount | wrCsumErrCount | wrParErrCount | wrFrameOkCount |
      wrResSeq | wrRes0 | wrRes1 | wrRes2 | wrRes3 | wrRes4 | wrRes5 | wrFrame0 | wrFrame1 | wrFrame2 =>
    exact decode_write _ _ rfl rfl

/-- Settles O6, by running the decoder on the eleven codes. -/
theorem writtenWordsDecode : Obligations.WrittenWordsDecode := by
  unfold Obligations.WrittenWordsDecode
  decide

end Sys2Proof

namespace Sys2Proof.Machine

/-- Settles O1: `step` by its definition, well-formedness from the round trip. -/
theorem stepRunsDecodedOperation : Obligations.StepRunsDecodedOperation := by
  intro s w rest i hs hd
  obtain ⟨hwf, -⟩ := encodeOfDecodeIsIdentity _ _ hd
  refine ⟨hwf, ?_⟩
  unfold step
  rw [hs]
  simp only [hd]
  rfl

end Sys2Proof.Machine
end

section
/-! The opcode table over the four fields of a word (30_encoding.md R101, R103): its rows as masks on `KIND`,
[59:45], `OFF` and `DATA`, and the first row that hits in each of its four parts. -/

namespace Sys2Proof.Machine

/-- The row with the masks `km`, `zm`, `om`, `dm` on the four fields; it wants `kp` in `KIND`, `op` in `OFF` and 0
in the other two. -/
def fieldRow (km kp : BitVec 4) (zm : BitVec 15) (om op : BitVec 13) (dm : Word) : StimRow :=
  ⟨km ++ zm ++ om ++ dm, kp ++ 0#15 ++ op ++ 0#32⟩

theorem hits_fieldRow (km kp : BitVec 4) (zm : BitVec 15) (om op : BitVec 13) (dm : Word) (w : StimWord) :
    (fieldRow km kp zm om op dm).hits w = true ↔
      stimKind w &&& km = kp ∧ stimZero w &&& zm = 0 ∧ stimOff w &&& om = op ∧ stimData w &&& dm = 0 := by
  have hand : w &&& (km ++ zm ++ om ++ dm) =
      (stimKind w &&& km) ++ (stimZero w &&& zm) ++ (stimOff w &&& om) ++ (stimData w &&& dm) := by
    conv_lhs => rw [← stim_fields w]
    rw [BitVec.and_append, BitVec.and_append, BitVec.and_append]
  unfold StimRow.hits fieldRow
  rw [beq_iff_eq, hand]
  constructor
  · intro h
    have hk := congrArg stimKind h
    have hz := congrArg stimZero h
    have ho := congrArg stimOff h
    have hd := congrArg stimData h
    rw [stimKind_append, stimKind_append] at hk
    rw [stimZero_append, stimZero_append] at hz
    rw [stimOff_append, stimOff_append] at ho
    rw [stimData_append, stimData_append] at hd
    exact ⟨hk, hz, ho, hd⟩
  · rintro ⟨hk, hz, ho, hd⟩
    rw [hk, hz, ho, hd]
    rfl

/-- A row of one `KIND` that wants [59:45] to be 0. -/
def wordRow (k : BitVec 4) (om op : BitVec 13) (dm : Word) : StimRow :=
  fieldRow (.allOnes 4) k (.allOnes 15) om op dm

theorem hits_wordRow (k : BitVec 4) (om op : BitVec 13) (dm : Word) (w : StimWord) :
    (wordRow k om op dm).hits w = true ↔
      stimKind w = k ∧ stimZero w = 0 ∧ stimOff w &&& om = op ∧ stimData w &&& dm = 0 := by
  unfold wordRow
  rw [hits_fieldRow, BitVec.and_allOnes, BitVec.and_allOnes]

/-- A row of one `KIND` and one offset. -/
def offsetRow (k : BitVec 4) (dm : Word) (o : BitVec 13) : StimRow := wordRow k (.allOnes 13) o dm

theorem hits_offsetRow (k : BitVec 4) (dm : Word) (o : BitVec 13) (w : StimWord) :
    (offsetRow k dm o).hits w = true ↔
      stimKind w = k ∧ stimZero w = 0 ∧ stimOff w = o ∧ stimData w &&& dm = 0 := by
  unfold offsetRow
  rw [hits_wordRow, BitVec.and_allOnes]

/-- A row of one `KIND` and one bit of `OFF`, whatever the other bits are. -/
def misalignedRow (k : BitVec 4) (bit : Nat) : StimRow :=
  fieldRow (.allOnes 4) k 0 (.twoPow 13 bit) (.twoPow 13 bit) 0

theorem and_twoPow_eq_twoPow_iff {n i : Nat} (x : BitVec n) (hi : i < n) :
    x &&& BitVec.twoPow n i = BitVec.twoPow n i ↔ x.getLsbD i = true := by
  rw [BitVec.and_twoPow]
  split
  · next h => simp [h]
  · next h =>
    have hne : 0#n ≠ BitVec.twoPow n i := fun e => by
      simpa [hi] using congrArg (BitVec.getLsbD · i) e
    exact iff_of_false hne h

theorem hits_misalignedRow (k : BitVec 4) {bit : Nat} (hb : bit < 13) (w : StimWord) :
    (misalignedRow k bit).hits w = true ↔ stimKind w = k ∧ (stimOff w).getLsbD bit = true := by
  unfold misalignedRow
  rw [hits_fieldRow, and_twoPow_eq_twoPow_iff _ hb, BitVec.and_allOnes]
  simp

theorem refusedRows_eq : refusedRows =
    [misalignedRow 3 0, misalignedRow 3 1, misalignedRow 4 0, misalignedRow 4 1,
      fieldRow 0xE 6 0 0 0 0, fieldRow 8 8 0 0 0 0] := rfl

theorem refusedRows_find (w : StimWord) : refusedRows.findIdx? (·.hits w) =
    if stimKind w = 3 ∧ (stimOff w).getLsbD 0 = true then some 0
    else if stimKind w = 3 ∧ (stimOff w).getLsbD 1 = true then some 1
    else if stimKind w = 4 ∧ (stimOff w).getLsbD 0 = true then some 2
    else if stimKind w = 4 ∧ (stimOff w).getLsbD 1 = true then some 3
    else if stimKind w = 6 ∨ stimKind w = 7 then some 4
    else if (stimKind w).getLsbD 3 = true then some 5
    else none := by
  have h6 : (fieldRow 0xE 6 0 0 0 0).hits w = true ↔ stimKind w = 6 ∨ stimKind w = 7 := by
    have hmask : ∀ k : BitVec 4, k &&& 0xE = 6 ↔ k = 6 ∨ k = 7 := by decide
    rw [hits_fieldRow, hmask]
    simp
  have h8 : (fieldRow 8 8 0 0 0 0).hits w = true ↔ (stimKind w).getLsbD 3 = true := by
    have hmask : ∀ k : BitVec 4, k &&& 8 = 8 ↔ k.getLsbD 3 = true := by decide
    rw [hits_fieldRow, hmask]
    simp
  rw [refusedRows_eq]
  simp only [List.findIdx?_cons, hits_misalignedRow _ (show 0 < 13 by decide),
    hits_misalignedRow _ (show 1 < 13 by decide), h6, h8]
  split_ifs <;> rfl

/-- The mask of `EDGE` on `DATA` leaves `DATA[31:1]`. -/
theorem and_clearBit0_eq_zero_iff (d : Word) : d &&& 0xFFFFFFFE = 0 ↔ d.extractLsb 31 1 = 0 := by
  have hd : d.extractLsb 31 1 ++ BitVec.ofBool (d.getLsbD 0) = d :=
    (extractLsb'_append_bit d 0 31).trans BitVec.extractLsb'_eq_self
  have hand : d &&& 0xFFFFFFFE = d.extractLsb 31 1 ++ 0#1 :=
    calc d &&& 0xFFFFFFFE
        = (d.extractLsb 31 1 ++ BitVec.ofBool (d.getLsbD 0)) &&& (BitVec.allOnes 31 ++ 0#1) := by rw [hd]; rfl
      _ = d.extractLsb 31 1 ++ 0#1 := by rw [BitVec.and_append, BitVec.and_allOnes, BitVec.and_zero]
  rw [hand]
  exact BitVec.append_left_inj 0#1 (s₂ := 0#31)

theorem eventRows_eq : eventRows =
    [offsetRow 0 0#32 0, offsetRow 1 0xFFFFFFFE 0, offsetRow 2 (.allOnes 32) 0,
      offsetRow 5 (.allOnes 32) 0] := rfl

theorem eventRows_find (w : StimWord) : eventRows.findIdx? (·.hits w) =
    if stimKind w = 0 ∧ stimZero w = 0 ∧ stimOff w = 0 then some 0
    else if stimKind w = 1 ∧ stimZero w = 0 ∧ stimOff w = 0 ∧ (stimData w).extractLsb 31 1 = 0 then some 1
    else if stimKind w = 2 ∧ stimZero w = 0 ∧ stimOff w = 0 ∧ stimData w = 0 then some 2
    else if stimKind w = 5 ∧ stimZero w = 0 ∧ stimOff w = 0 ∧ stimData w = 0 then some 3
    else none := by
  have htick : (offsetRow 0 0#32 0).hits w = true ↔ stimKind w = 0 ∧ stimZero w = 0 ∧ stimOff w = 0 := by
    rw [hits_offsetRow]; simp
  rw [eventRows_eq]
  simp only [List.findIdx?_cons, htick, hits_offsetRow, BitVec.and_allOnes, and_clearBit0_eq_zero_iff]
  split_ifs <;> rfl

theorem eventRows_miss {w : StimWord}
    (hk : ¬ (stimKind w = 0 ∨ stimKind w = 1 ∨ stimKind w = 2 ∨ stimKind w = 5)) :
    eventRows.findIdx? (·.hits w) = none := by
  simp only [not_or] at hk
  obtain ⟨h0, h1, h2, h5⟩ := hk
  simp only [eventRows_find, h0, h1, h2, h5, false_and, if_false]

/-- The rows of one access: a row for each register, the ring window's, the reserved offsets'. -/
def mmioRows (k : BitVec 4) (dm : Word) : List StimRow :=
  namedOffsets.map (offsetRow k dm) ++ [wordRow k 0x1003 0x1000 dm, wordRow k 0x0003 0 dm]

theorem mmioReadRows_eq : mmioReadRows = mmioRows 3 (.allOnes 32) := rfl

theorem mmioWriteRows_eq : mmioWriteRows = mmioRows 4 0#32 := rfl

/-- Where the row of an aligned offset stands among the rows of one access. -/
def offsetIndex (o : BitVec 13) : Nat :=
  (namedOffsets.findIdx? (o == ·)).getD (if o.getLsbD 12 then 28 else 29)

theorem and_alignMask {o : BitVec 13} (ha : o.extractLsb 1 0 = 0#2) : o &&& 0x0003 = 0 := by
  have ho : o.extractLsb 12 2 ++ o.extractLsb 1 0 = o :=
    BitVec.extractLsb'_append_extractLsb' (w := 11) (len := 2)
  calc o &&& 0x0003 = (o.extractLsb 12 2 ++ o.extractLsb 1 0) &&& (0#11 ++ 3#2) := by rw [ho]; rfl
    _ = 0 := by rw [BitVec.and_append, ha, BitVec.and_zero, BitVec.zero_and]; rfl

/-- The mask of the ring window on an aligned offset leaves bit 12. -/
theorem and_windowMask_iff {o : BitVec 13} (ha : o.extractLsb 1 0 = 0#2) :
    o &&& 0x1003 = 0x1000 ↔ o.getLsbD 12 = true := by
  have hand : o &&& 0x1003 = o &&& BitVec.twoPow 13 12 :=
    calc o &&& 0x1003 = (o &&& BitVec.twoPow 13 12) ||| (o &&& 0x0003) :=
        BitVec.and_or_distrib_left (y := BitVec.twoPow 13 12) (z := 0x0003)
      _ = o &&& BitVec.twoPow 13 12 := by rw [and_alignMask ha]; exact BitVec.or_zero
  rw [hand]
  exact and_twoPow_eq_twoPow_iff o (by decide)

theorem mmioRows_find {k : BitVec 4} {dm : Word} {w : StimWord} (hk : stimKind w = k) (hz : stimZero w = 0)
    (ha : (stimOff w).extractLsb 1 0 = 0#2) (hd : stimData w &&& dm = 0) :
    (mmioRows k dm).findIdx? (·.hits w) = some (offsetIndex (stimOff w)) := by
  have hnamed : (namedOffsets.map (offsetRow k dm)).findIdx? (·.hits w) =
      namedOffsets.findIdx? (stimOff w == ·) := by
    rw [List.findIdx?_map]
    congr 1
    funext o
    rw [Bool.eq_iff_iff, Function.comp_apply, hits_offsetRow, beq_iff_eq]
    exact ⟨fun ⟨_, _, ho, _⟩ => ho, fun ho => ⟨hk, hz, ho, hd⟩⟩
  have hwindow : (wordRow k 0x1003 0x1000 dm).hits w = (stimOff w).getLsbD 12 := by
    rw [Bool.eq_iff_iff, hits_wordRow, and_windowMask_iff ha]
    exact ⟨fun ⟨_, _, h12, _⟩ => h12, fun h12 => ⟨hk, hz, h12, hd⟩⟩
  have hreserved : (wordRow k 0x0003 0 dm).hits w = true :=
    (hits_wordRow _ _ _ _ _).mpr ⟨hk, hz, and_alignMask ha, hd⟩
  unfold mmioRows offsetIndex
  rw [List.findIdx?_append, hnamed, List.findIdx?_cons, List.findIdx?_cons, hwindow, hreserved]
  cases namedOffsets.findIdx? (stimOff w == ·) with
  | some j => rfl
  | none => cases (stimOff w).getLsbD 12 <;> rfl

theorem mmioRows_miss {k : BitVec 4} {dm : Word} {w : StimWord}
    (h : ¬ (stimKind w = k ∧ stimZero w = 0 ∧ stimData w &&& dm = 0)) :
    (mmioRows k dm).findIdx? (·.hits w) = none := by
  have hmiss : ∀ om op, ¬ (wordRow k om op dm).hits w = true := fun om op hhit => by
    obtain ⟨hk, hz, -, hd⟩ := (hits_wordRow _ _ _ _ _).mp hhit
    exact h ⟨hk, hz, hd⟩
  rw [List.findIdx?_eq_none_iff]
  intro r hr
  rw [← Bool.not_eq_true]
  simp only [mmioRows, List.mem_append, List.mem_map, List.mem_cons, List.not_mem_nil, or_false] at hr
  rcases hr with ⟨o, -, rfl⟩ | rfl | rfl <;> exact hmiss _ _

theorem mmioReadRows_miss {w : StimWord} (h : ¬ (stimKind w = 3 ∧ stimZero w = 0 ∧ stimData w = 0)) :
    mmioReadRows.findIdx? (·.hits w) = none := by
  rw [mmioReadRows_eq]
  exact mmioRows_miss (by rwa [BitVec.and_allOnes])

theorem mmioWriteRows_miss {w : StimWord} (h : ¬ (stimKind w = 4 ∧ stimZero w = 0)) :
    mmioWriteRows.findIdx? (·.hits w) = none := by
  rw [mmioWriteRows_eq]
  exact mmioRows_miss fun ⟨hk, hz, _⟩ => h ⟨hk, hz⟩

/-- In a table whose rows are numbered from `n` on, looking an offset up gives the number of its place. -/
theorem lookup_map_number {β : Type} (number : β → Nat) {n : Nat} {l : List (BitVec 13 × β)}
    (h : l.map (fun p => number p.2) = List.range' n l.length) (o : BitVec 13) :
    (l.lookup o).map number = ((l.map (·.1)).findIdx? (o == ·)).map (· + n) := by
  induction l generalizing n with
  | nil => rfl
  | cons p l ih =>
    rw [List.map_cons, List.length_cons, List.range'_succ, List.cons.injEq] at h
    obtain ⟨hp, hl⟩ := h
    rw [List.map_cons, List.findIdx?_cons, List.lookup_cons]
    cases o == p.1
    · simp [ih hl, Function.comp_def, Nat.add_assoc, Nat.add_comm 1]
    · simp [hp]

/-- The read rows are numbered from 10 on, in the order of the offsets. -/
theorem rowNumber_readRow (o : BitVec 13) : rowNumber (readRow o) = offsetIndex o + 10 := by
  have hnum : (readRows.lookup o).map rowNumber = (namedOffsets.findIdx? (o == ·)).map (· + 10) :=
    lookup_map_number rowNumber rfl o
  unfold offsetIndex
  cases hrow : readRows.lookup o with
  | some i =>
    rw [hrow] at hnum
    obtain ⟨j, hj, hij⟩ := Option.map_eq_some_iff.mp hnum.symm
    rw [readRow_of_lookup hrow, hj]
    exact hij.symm
  | none =>
    rw [hrow] at hnum
    rw [Option.map_eq_none_iff.mp hnum.symm]
    cases h12 : o.getLsbD 12
    · rw [readRow_reserved (readRows_lookup_eq_none.mp hrow) h12]; rfl
    · rw [readRow_window h12]; rfl

/-- The write rows are numbered from 40 on, in the order of the offsets. -/
theorem rowNumber_writeRow (o : BitVec 13) (v : Word) : rowNumber (writeRow o v) = offsetIndex o + 40 := by
  have hnum : (writeRows.lookup o).map (fun f => rowNumber (f v)) =
      (namedOffsets.findIdx? (o == ·)).map (· + 40) := lookup_map_number _ rfl o
  unfold offsetIndex
  cases hrow : writeRows.lookup o with
  | some f =>
    rw [hrow] at hnum
    obtain ⟨j, hj, hij⟩ := Option.map_eq_some_iff.mp hnum.symm
    rw [writeRow_of_lookup hrow, hj]
    exact hij.symm
  | none =>
    rw [hrow] at hnum
    rw [Option.map_eq_none_iff.mp hnum.symm]
    cases h12 : o.getLsbD 12
    · rw [writeRow_reserved (writeRows_lookup_eq_none.mp hrow) h12]; rfl
    · rw [writeRow_window h12]; rfl

end Sys2Proof.Machine
end

section
/-! The decoder against the opcode table (30_encoding.md R103). For each `KIND` the first row that hits, part by
part of the table, is the row of what that `KIND`'s decoder answers. -/

namespace Sys2Proof.Machine

/-- The number of the row the decoder answers, none where it rejects the word. -/
def rowAnswered : Except Reject Instr → Option Nat
  | .ok i => some (rowNumber i)
  | .error _ => none

/-- The first row, by the four parts of the table. -/
theorem firstRow_eq (w : StimWord) : firstRow w =
    (((refusedRows.findIdx? (·.hits w)).or ((eventRows.findIdx? (·.hits w)).map (· + 6))).or
      ((mmioReadRows.findIdx? (·.hits w)).map (· + 10))).or
        ((mmioWriteRows.findIdx? (·.hits w)).map (· + 40)) := by
  unfold firstRow stimRows
  rw [List.findIdx?_append, List.findIdx?_append, List.findIdx?_append]
  rfl

theorem firstRow_event {w : StimWord}
    (hk : stimKind w = 0 ∨ stimKind w = 1 ∨ stimKind w = 2 ∨ stimKind w = 5) :
    firstRow w = (eventRows.findIdx? (·.hits w)).map (· + 6) := by
  have hrefused : refusedRows.findIdx? (·.hits w) = none := by
    rw [refusedRows_find]
    rcases hk with hk | hk | hk | hk <;> simp [hk]
  have hread : stimKind w ≠ 3 := by rcases hk with hk | hk | hk | hk <;> simp [hk]
  have hwrite : stimKind w ≠ 4 := by rcases hk with hk | hk | hk | hk <;> simp [hk]
  rw [firstRow_eq, hrefused, mmioReadRows_miss (fun h => hread h.1), mmioWriteRows_miss (fun h => hwrite h.1),
    Option.map_none, Option.map_none, Option.or_none, Option.or_none, Option.none_or]

theorem rowAnswered_decodeTick (w : StimWord) : rowAnswered (decodeTick w) =
    if stimZero w = 0 ∧ stimOff w = 0 then some 6 else none := by
  by_cases hz : stimZero w = 0 <;> by_cases ho : stimOff w = 0 <;>
    simp only [decodeTick, hz, ho, ne_eq, ite_not, if_true, if_false, and_true, and_false] <;> rfl

theorem rowAnswered_decodeEdge (w : StimWord) : rowAnswered (decodeEdge w) =
    if stimZero w = 0 ∧ stimOff w = 0 ∧ (stimData w).extractLsb 31 1 = 0 then some 7 else none := by
  by_cases hz : stimZero w = 0 <;> by_cases ho : stimOff w = 0 <;>
    by_cases hd : (stimData w).extractLsb 31 1 = 0 <;>
      simp only [decodeEdge, hz, ho, hd, ne_eq, ite_not, if_true, if_false, and_true, and_false] <;> rfl

theorem rowAnswered_decodePlain (i : Instr) (w : StimWord) : rowAnswered (decodePlain i w) =
    if stimZero w = 0 ∧ stimOff w = 0 ∧ stimData w = 0 then some (rowNumber i) else none := by
  by_cases hz : stimZero w = 0 <;> by_cases ho : stimOff w = 0 <;> by_cases hd : stimData w = 0 <;>
    simp only [decodePlain, hz, ho, hd, ne_eq, ite_not, if_true, if_false, and_true, and_false] <;> rfl

theorem firstRow_tick {w : StimWord} (hk : stimKind w = 0) : firstRow w = rowAnswered (decodeTick w) := by
  rw [firstRow_event (.inl hk), eventRows_find, rowAnswered_decodeTick]
  simp [hk, apply_ite (Option.map (· + 6))]

theorem firstRow_edge {w : StimWord} (hk : stimKind w = 1) : firstRow w = rowAnswered (decodeEdge w) := by
  rw [firstRow_event (.inr (.inl hk)), eventRows_find, rowAnswered_decodeEdge]
  simp [hk, apply_ite (Option.map (· + 6))]

theorem firstRow_consume {w : StimWord} (hk : stimKind w = 2) :
    firstRow w = rowAnswered (decodePlain .consume w) := by
  rw [firstRow_event (.inr (.inr (.inl hk))), eventRows_find, rowAnswered_decodePlain]
  simp [hk, apply_ite (Option.map (· + 6)), rowNumber]

theorem firstRow_hwReset {w : StimWord} (hk : stimKind w = 5) :
    firstRow w = rowAnswered (decodePlain .hwReset w) := by
  rw [firstRow_event (.inr (.inr (.inr hk))), eventRows_find, rowAnswered_decodePlain]
  simp [hk, apply_ite (Option.map (· + 6)), rowNumber]

/-- A misaligned read hits a refused row first, whatever else is wrong with it (30_encoding.md R103). -/
theorem firstRow_read {w : StimWord} (hk : stimKind w = 3) : firstRow w = rowAnswered (decodeRead w) := by
  have hrefused : refusedRows.findIdx? (·.hits w) =
      if (stimOff w).getLsbD 0 = true then some 0 else if (stimOff w).getLsbD 1 = true then some 1 else none := by
    rw [refusedRows_find]
    simp [hk]
  rw [firstRow_eq, mmioWriteRows_miss (by simp [hk]), eventRows_miss (by simp [hk]), hrefused]
  unfold decodeRead
  split_ifs with h0 h1 hz hd
  · rfl
  · rfl
  · rw [mmioReadRows_miss fun ⟨_, hzero, _⟩ => hz hzero]; rfl
  · rw [mmioReadRows_miss fun ⟨_, _, hdata⟩ => hd hdata]; rfl
  · have ha := (aligned_iff (stimOff w)).mpr ⟨by simpa using h0, by simpa using h1⟩
    rw [mmioReadRows_eq, mmioRows_find hk (not_not.mp hz) ha (by rw [not_not.mp hd]; exact BitVec.zero_and)]
    exact congrArg some (rowNumber_readRow (stimOff w)).symm

/-- A misaligned write hits a refused row first, whatever else is wrong with it (30_encoding.md R103). -/
theorem firstRow_write {w : StimWord} (hk : stimKind w = 4) : firstRow w = rowAnswered (decodeWrite w) := by
  have hrefused : refusedRows.findIdx? (·.hits w) =
      if (stimOff w).getLsbD 0 = true then some 2 else if (stimOff w).getLsbD 1 = true then some 3 else none := by
    rw [refusedRows_find]
    simp [hk]
  rw [firstRow_eq, mmioReadRows_miss (by simp [hk]), eventRows_miss (by simp [hk]), hrefused]
  unfold decodeWrite
  split_ifs with h0 h1 hz
  · rfl
  · rfl
  · rw [mmioWriteRows_miss fun ⟨_, hzero⟩ => hz hzero]; rfl
  · have ha := (aligned_iff (stimOff w)).mpr ⟨by simpa using h0, by simpa using h1⟩
    rw [mmioWriteRows_eq, mmioRows_find hk (not_not.mp hz) ha BitVec.and_zero]
    exact congrArg some (rowNumber_writeRow (stimOff w) (stimData w)).symm

theorem firstRow_kind6to7 {w : StimWord} (hk : stimKind w = 6 ∨ stimKind w = 7) : firstRow w = some 4 := by
  have hrefused : refusedRows.findIdx? (·.hits w) = some 4 := by
    rw [refusedRows_find]
    rcases hk with hk | hk <;> simp [hk]
  rw [firstRow_eq, hrefused]
  rfl

theorem firstRow_kind8to15 {w : StimWord} (hk : (stimKind w).getLsbD 3 = true) : firstRow w = some 5 := by
  have hne : ∀ k : BitVec 4, k.getLsbD 3 = true → k ≠ 3 ∧ k ≠ 4 ∧ k ≠ 6 ∧ k ≠ 7 := by decide
  obtain ⟨h3, h4, h6, h7⟩ := hne _ hk
  have hrefused : refusedRows.findIdx? (·.hits w) = some 5 := by
    simp only [refusedRows_find, h3, h4, h6, h7, hk, false_and, or_false, if_false, if_true]
  rw [firstRow_eq, hrefused]
  rfl

/-- The first row in file order that a word hits is the row of what the decoder answers, and there is none where
the decoder rejects the word (30_encoding.md R103). -/
theorem firstRow_eq_rowAnswered (w : StimWord) : firstRow w = rowAnswered (decodeStimulus w) := by
  rcases kind_cases (stimKind w) with hk | hk | hk | hk | hk | hk | hk | hk
  · rw [decodeStimulus_tick hk, firstRow_tick hk]
  · rw [decodeStimulus_edge hk, firstRow_edge hk]
  · rw [decodeStimulus_consume hk, firstRow_consume hk]
  · rw [decodeStimulus_read hk, firstRow_read hk]
  · rw [decodeStimulus_write hk, firstRow_write hk]
  · rw [decodeStimulus_hwReset hk, firstRow_hwReset hk]
  · rw [decodeStimulus_kind6to7 hk, firstRow_kind6to7 hk]; rfl
  · rw [decodeStimulus_kind8to15 hk, firstRow_kind8to15 hk]; rfl

/-- Settles O5, from the row that the decoder's answer stands for. -/
theorem decoderFollowsTheOpcodeTable : Obligations.DecoderFollowsTheOpcodeTable := by
  intro w
  rw [firstRow_eq_rowAnswered w]
  change (∀ i, decodeStimulus w = .ok i → _) ∧ ((∃ r, decodeStimulus w = .error r) ↔ _)
  cases decodeStimulus w with
  | ok i => simp [rowAnswered]
  | error r => simp [rowAnswered]

end Sys2Proof.Machine
end

section
/-! The timer (40_edge_capture.md R141). -/

namespace Sys2Proof.Machine

theorem exec_tick (k : Word) (s : State) : exec (.tick k) s = .next { s with ts := s.ts + k } := rfl

/-- Settles O18: the addition of words is the sum modulo 2^32, and it is associative. -/
theorem tickAddsModulo : Obligations.TickAddsModulo := by
  refine ⟨fun k s => ⟨s.ts + k, exec_tick k s, BitVec.toNat_add _ _⟩, fun a b s t ha => ?_, fun s hts => ?_⟩
  · rw [exec_tick] at ha
    cases ha
    simp only [exec_tick, BitVec.add_assoc]
  · rw [exec_tick, hts]
    rfl

end Sys2Proof.Machine
end

section
/-! The outcomes of an edge, each under the conditions of the rules written as numbers (40_edge_capture.md R130 to
R136): which outcome it is, and the slots of the ring after it. -/

namespace Sys2Proof.Machine

theorem exec_edge (lvl : Bool) (s : State) : exec (.edge lvl) s = .next (edgeStep lvl s) := rfl

/-- The level of an edge is the expected level of a slot exactly where it is the slot's parity (10_state.md R27). -/
theorem eq_slotLevel_iff (lvl : Bool) (c : BitVec 10) : lvl = slotLevel c ↔ lvl.toNat = c.toNat % 2 := by
  rw [slotLevel_eq]
  rcases Nat.mod_two_eq_zero_or_one c.toNat with hc | hc <;> cases lvl <;> simp [hc]

theorem ringFull_eq_false_iff (s : State) :
    ringFull s = false ↔ (s.wr.toNat + 1) % s.params.ringSize ≠ s.rd.toNat := by
  rw [← Bool.not_eq_true, Ne, ringFull_iff]

/-- An edge is ignored while capture is disabled (40_edge_capture.md R130). -/
theorem edgeStep_of_disabled (lvl : Bool) {s : State} (hcap : s.capEn = false) : edgeStep lvl s = s := by
  simp [edgeStep, hcap]

/-- An edge that finds the ring full starts an episode, or is dropped during one (40_edge_capture.md R135). -/
theorem edgeStep_of_full (lvl : Bool) {s : State} (hcap : s.capEn = true)
    (hfull : (s.wr.toNat + 1) % s.params.ringSize = s.rd.toNat) :
    edgeStep lvl s = if s.ovfActive then s else startEpisode s := by
  simp [edgeStep, hcap, (ringFull_iff s).2 hfull]

section Room

variable {lvl : Bool} {s : State} (hcap : s.capEn = true)
  (hroom : (s.wr.toNat + 1) % s.params.ringSize ≠ s.rd.toNat)

include hcap hroom

/-- An edge that finds room ends any episode and meets the other tests (40_edge_capture.md R130, R136). -/
theorem edgeStep_of_room : edgeStep lvl s = captureEdge lvl { s with ovfActive := false } := by
  simp [edgeStep, hcap, (ringFull_eq_false_iff s).2 hroom]

/-- The glitch filter (40_edge_capture.md R132). -/
theorem edgeStep_of_short (hshort : (s.ts - slot s s.wr.toNat).toNat < s.filterUs.toNat) :
    edgeStep lvl s = { s with ovfActive := false, filt := true } :=
  (edgeStep_of_room hcap hroom).trans (if_pos hshort)

variable (hlong : s.filterUs.toNat ≤ (s.ts - slot s s.wr.toNat).toNat)

include hlong

/-- The tests of an edge that passes the glitch filter (40_edge_capture.md R130, tests 3 and 4). -/
theorem edgeStep_of_long : edgeStep lvl s =
    if s.filt then resolveFiltered lvl { s with ovfActive := false }
    else if lvl = slotLevel (nextSlot s s.wr) then normalWrite { s with ovfActive := false } s.ts
    else { s with ovfActive := false } :=
  (edgeStep_of_room hcap hroom).trans (if_neg (Nat.not_lt.2 hlong))

/-- With no filtered edge before it, an edge that is not at the level of the next slot is dropped
(40_edge_capture.md R136). -/
theorem edgeStep_of_otherLevel (hfilt : s.filt = false) (hother : lvl ≠ slotLevel (nextSlot s s.wr)) :
    edgeStep lvl s = { s with ovfActive := false } := by
  rw [edgeStep_of_long hcap hroom hlong, if_neg (by simp [hfilt]), if_neg hother]

/-- After a filtered edge, one at the level of `wr` moves the last stored edge to now
(40_edge_capture.md R133). -/
theorem edgeStep_of_coalesced (hfilt : s.filt = true) (hlevel : lvl = slotLevel s.wr) :
    edgeStep lvl s = ringWrite { s with filt := false, ovfActive := false } s.wr s.ts := by
  rw [edgeStep_of_long hcap hroom hlong, if_pos hfilt]
  exact if_pos hlevel

/-- An edge is written to the next slot where it ends a filtered mark at the other level than that of `wr`, or
where it has the level of the next slot (40_edge_capture.md R131, R133). -/
theorem edgeStep_of_written (h : (s.filt = true ∧ lvl ≠ slotLevel s.wr) ∨
    (s.filt = false ∧ lvl = slotLevel (nextSlot s s.wr))) :
    edgeStep lvl s = normalWrite { s with filt := false, ovfActive := false } s.ts := by
  rw [edgeStep_of_long hcap hroom hlong]
  rcases h with ⟨hfilt, hother⟩ | ⟨hfilt, hlevel⟩
  · rw [if_pos hfilt]
    exact if_neg hother
  · rw [if_neg (by simp [hfilt]), ← hfilt]
    exact if_pos hlevel

end Room

/-- Settles O20, from the equation of each outcome. -/
theorem edgeThatStoresNothing : Obligations.EdgeThatStoresNothing := by
  intro lvl s
  simp only [exec_edge]
  refine ⟨fun hcap => ?_, fun hcap hfull hactive => ?_, fun hcap hfull hactive => ?_,
    fun hcap hroom hshort => ?_, fun hcap hroom hlong hfilt hlevel => ?_⟩
  · rw [edgeStep_of_disabled lvl hcap]
  · rw [edgeStep_of_full lvl hcap hfull, if_pos hactive]
  · rw [edgeStep_of_full lvl hcap hfull, if_neg (by simp [hactive])]
    rfl
  · rw [edgeStep_of_short hcap hroom hshort]
  · have hother : lvl ≠ slotLevel (nextSlot s s.wr) := by
      rwa [Ne, eq_slotLevel_iff, nextSlot_toNat]
    rw [edgeStep_of_otherLevel hcap hroom hlong hfilt hother]

/-- The ring of `t` reads like that of `s`, but for the slot `j`, which reads the time of `s`. -/
def StampedAt (s t : State) (j : Nat) : Prop :=
  ∀ i, slot t i = if i % s.params.ringSize = j then s.ts else slot s i

theorem ringWrite_stampedAt {s : State} (h : Memory.wf s.ring = true) (c : BitVec 10) :
    StampedAt s (ringWrite s c s.ts) (c.toNat % s.params.ringSize) :=
  fun _ => read_ringWrite c s.ts _ h

theorem normalWrite_stampedAt {s : State} (h : Memory.wf s.ring = true) :
    StampedAt s (normalWrite s s.ts) ((s.wr.toNat + 1) % s.params.ringSize) := by
  rw [← nextSlot_toNat, ← slotOf_nextSlot]
  exact fun _ => read_ringWrite (nextSlot s s.wr) s.ts _ h

theorem StampedAt.slot_eq {s t : State} {j i : Nat} (h : StampedAt s t j) (hi : i < s.params.ringSize) :
    slot t i = if i = j then s.ts else slot s i := by
  rw [h i, Nat.mod_eq_of_lt hi]

theorem StampedAt.slot_other {s t : State} {j i : Nat} (h : StampedAt s t j)
    (hi : i % s.params.ringSize ≠ j) : slot t i = slot s i := by
  rw [h i, if_neg hi]

/-- Settles O21: in each outcome that stores, the slot that the write addresses reads `TS` after it. -/
theorem edgeThatStores : Obligations.EdgeThatStores := by
  intro lvl s hwf hcap hroom hlong
  refine ⟨fun hfilt hlevel => ?_, fun hwritten => ?_⟩
  · have hstep := edgeStep_of_coalesced hcap hroom hlong hfilt ((eq_slotLevel_iff lvl s.wr).2 hlevel)
    have hstamped := ringWrite_stampedAt (s := { s with filt := false, ovfActive := false }) hwf s.wr
    exact ⟨_, (exec_edge lvl s).trans (congrArg _ hstep), rfl, fun i hi => hstamped.slot_eq hi⟩
  · rw [← nextSlot_toNat, ← eq_slotLevel_iff, Ne, ← eq_slotLevel_iff] at hwritten
    have hstep := edgeStep_of_written hcap hroom hlong hwritten
    have hstamped := normalWrite_stampedAt (s := { s with filt := false, ovfActive := false }) hwf
    exact ⟨_, (exec_edge lvl s).trans (congrArg _ hstep), rfl, nextSlot_toNat s s.wr,
      fun i hi => hstamped.slot_eq hi⟩

/-- An edge stores nothing, or stores `TS` in a slot of its own level: in `wr`, or in the next slot where the
ring has room (40_edge_capture.md R131, R133, R137). -/
theorem edgeStep_stamps (lvl : Bool) {s : State} (hwf : Memory.wf s.ring = true)
    (hwr : s.wr.toNat < s.params.ringSize) :
    (∀ i, slot (edgeStep lvl s) i = slot s i) ∨
    ∃ c, (c = s.wr ∨ (c = nextSlot s s.wr ∧ c ≠ s.rd)) ∧ lvl = slotLevel c ∧
      StampedAt s (edgeStep lvl s) c.toNat := by
  rcases edgeStep_cases lvl s with ⟨_, he⟩ | ⟨_, _, _, he⟩ | ⟨_, _, _, he⟩ | ⟨_, hroom, he⟩ <;> rw [he]
  · exact .inl fun _ => rfl
  · exact .inl fun _ => rfl
  · exact .inl fun _ => rfl
  · have hnext : nextSlot s s.wr ≠ s.rd := by simpa [ringFull] using hroom
    have hlast := ringWrite_stampedAt hwf s.wr
    rw [Nat.mod_eq_of_lt hwr] at hlast
    have hnew := normalWrite_stampedAt hwf
    rw [← nextSlot_toNat] at hnew
    rcases captureEdge_cases lvl { s with ovfActive := false } with ⟨_, hc⟩ | ⟨_, _, hlevel, hc⟩ |
      ⟨_, _, hother, hc⟩ | ⟨_, _, _, hc⟩ | ⟨_, _, hlevel, hc⟩ <;> rw [hc]
    · exact .inl fun _ => rfl
    · exact .inr ⟨s.wr, .inl rfl, hlevel, hlast⟩
    · have hlevel : lvl = slotLevel (nextSlot s s.wr) := by
        rw [slotLevel_nextSlot hwr]
        exact Bool.eq_not.2 hother
      exact .inr ⟨nextSlot s s.wr, .inr ⟨rfl, hnext⟩, hlevel, hnew⟩
    · exact .inl fun _ => rfl
    · exact .inr ⟨nextSlot s s.wr, .inr ⟨rfl, hnext⟩, hlevel, hnew⟩

/-- The entries before the last stand neither in `wr` nor in the slot after it (40_edge_capture.md R138). The
contents of the ring play no part. -/
theorem entrySlot_ne_written {s : State} (hwr : s.wr.toNat < s.params.ringSize)
    (hrd : s.rd.toNat < s.params.ringSize) {k : Nat} (hk : k + 1 < ringCount s) :
    entrySlot s k ≠ s.wr.toNat ∧ entrySlot s k ≠ (nextSlot s s.wr).toNat := by
  have hcursors : RingInv { s with ring := [] } := ⟨rfl, rfl, hwr, hrd⟩
  have hcount := ringCount_lt s
  obtain ⟨m, hm⟩ : ∃ m, ringCount s = m + 1 := ⟨ringCount s - 1, by omega⟩
  have hlast : s.wr.toNat = entrySlot s m := wr_eq_entrySlot hcursors hm
  have hnext : (nextSlot s s.wr).toNat = entrySlot s (ringCount s) :=
    nextSlot_wr_eq_entrySlot (s := { s with ring := [] }) hcursors
  rw [hlast, hnext]
  exact ⟨entrySlot_ne (by omega) (by omega), entrySlot_ne (by omega) hcount⟩

/-- Settles O22: the one slot that an edge can store to has the level of the edge, and is neither `rd` nor the
slot of an entry before the last. -/
theorem edgeNeverHarmsAnEntry : Obligations.EdgeNeverHarmsAnEntry := by
  intro lvl s t he
  rw [exec_edge] at he
  cases he
  refine ⟨edgeStep_frame lvl s, fun hwf hwr hrd => ?_⟩
  rcases edgeStep_stamps lvl hwf hwr with hsame | ⟨c, hc, hlevel, hstamped⟩
  · exact ⟨fun i _ hchanged => absurd (hsame i) hchanged, fun _ => hsame _, fun k _ => hsame _⟩
  · refine ⟨fun i hi hchanged => ?_, fun hsome => hstamped.slot_other ?_,
      fun k hk => hstamped.slot_other ?_⟩
    · obtain rfl : i = c.toNat := by
        by_contra hne
        exact hchanged (by rw [hstamped.slot_eq hi, if_neg hne])
      refine ⟨?_, by rw [hstamped.slot_eq hi, if_pos rfl], (eq_slotLevel_iff lvl c).1 hlevel⟩
      rcases hc with rfl | ⟨rfl, _⟩
      · exact .inl rfl
      · exact .inr (nextSlot_toNat s s.wr)
    · rw [Nat.mod_eq_of_lt hrd, Ne, BitVec.toNat_inj]
      rcases hc with rfl | ⟨_, hne⟩
      · exact hsome
      · exact hne.symm
    · obtain ⟨hnotLast, hnotNew⟩ := entrySlot_ne_written hwr hrd hk
      rcases hc with rfl | ⟨rfl, _⟩
      · exact hnotLast
      · exact hnotNew

end Sys2Proof.Machine
end

section
/-! Overflow episodes (40_edge_capture.md R135, 10_state.md R29, R30): which operations write `OVF`, `OVF_COUNT` and
`ovf_active`. -/

namespace Sys2Proof.Machine

/-- The state of the overflow episodes is the same. -/
structure SameOverflow (s t : State) : Prop where
  ovf : t.ovf = s.ovf
  ovfCount : t.ovfCount = s.ovfCount
  ovfActive : t.ovfActive = s.ovfActive

theorem DemOnly.sameOverflow {s t : State} (h : DemOnly s t) : SameOverflow s t := by
  unfold DemOnly at h
  constructor <;> rw [h]

/-- The tests after the full test leave the episodes alone (40_edge_capture.md R130). -/
theorem captureEdge_sameOverflow (lvl : Bool) (s : State) : SameOverflow s (captureEdge lvl s) := by
  rcases captureEdge_cases lvl s with ⟨_, hc⟩ | ⟨_, _, _, hc⟩ | ⟨_, _, _, hc⟩ | ⟨_, _, _, hc⟩ | ⟨_, _, _, hc⟩ <;>
    rw [hc] <;> exact ⟨rfl, rfl, rfl⟩

/-- What an edge does to the episodes: nothing; with the ring full, it starts one; with room, it ends one
(40_edge_capture.md R135, R136). -/
theorem edgeStep_overflow_cases (lvl : Bool) (s : State) :
    SameOverflow s (edgeStep lvl s) ∨
    (s.capEn = true ∧ ringFull s = true ∧ s.ovfActive = false ∧ edgeStep lvl s = startEpisode s) ∨
    (s.capEn = true ∧ ringFull s = false ∧ SameOverflow { s with ovfActive := false } (edgeStep lvl s)) := by
  rcases edgeStep_cases lvl s with ⟨_, he⟩ | ⟨_, _, _, he⟩ | hstart | ⟨hcap, hroom, he⟩
  · exact .inl (by rw [he]; exact ⟨rfl, rfl, rfl⟩)
  · exact .inl (by rw [he]; exact ⟨rfl, rfl, rfl⟩)
  · exact .inr (.inl hstart)
  · exact .inr (.inr ⟨hcap, hroom, he ▸ captureEdge_sameOverflow lvl _⟩)

/-- Beside `EDGE`, only the two resets, `WR CTRL`, `WR STATUS` and `WR OVF_COUNT` may write the state of the
episodes (10_state.md R29, R30). -/
theorem Effect.overflow_cases {i : Instr} {s t : State} (h : Effect i s t) :
    (∃ lvl, i = .edge lvl ∧ t = edgeStep lvl s) ∨
    (i = .hwReset ∨ (∃ v, i = .wrCtrl v) ∨ (∃ v, i = .wrOvfCount v) ∨ ∃ v, i = .wrStatus v) ∨
    SameOverflow s t := by
  cases h
  case edge lvl => exact .inl ⟨lvl, rfl, rfl⟩
  case hwReset => exact .inr (.inl (.inl rfl))
  case softReset v _ => exact .inr (.inl (.inr (.inl ⟨v, rfl⟩)))
  case ovfCount v => exact .inr (.inl (.inr (.inr (.inl ⟨v, rfl⟩))))
  case status v => exact .inr (.inl (.inr (.inr (.inr ⟨v, rfl⟩))))
  case consume =>
    obtain ⟨hovf, hcount, hactive⟩ := (basPulse_demOnly (endedLevel (nextSlot s s.rd))
      (consumedTs s - s.prevTs) (takeEntry s)).sameOverflow
    exact .inr (.inr ⟨hovf, hcount, hactive⟩)
  case pulse p d _ _ => exact .inr (.inr (basPulse_demOnly p d s).sameOverflow)
  case packet f bs r _ =>
    exact .inr (.inr (validateAndAccept_decodeOnly f bs r .count s).demOnly.sameOverflow)
  all_goals exact .inr (.inr ⟨rfl, rfl, rfl⟩)

/-- Settles O52, from what an edge does to the episodes. -/
theorem overflowCountsEpisodesOnce : Obligations.OverflowCountsEpisodesOnce := by
  intro i s t he hreset hctrl hcount hstatus
  rcases (exec_effect he).overflow_cases with ⟨lvl, rfl, rfl⟩ |
    (hi | ⟨v, hi⟩ | ⟨v, hi⟩ | ⟨v, hi⟩) | hsame
  · rw [← ringFull_iff]
    rcases edgeStep_overflow_cases lvl s with hsame | ⟨hcap, hfull, hidle, hstart⟩ | ⟨hcap, hroom, hends⟩
    · exact ⟨.inl ⟨hsame.ovfCount, hsame.ovf⟩, fun hne => absurd hsame.ovfActive hne⟩
    · rw [hstart]
      exact ⟨.inr ⟨lvl, rfl, hidle, rfl, rfl, rfl⟩,
        fun _ => ⟨lvl, rfl, hcap, iff_of_true rfl hfull⟩⟩
    · refine ⟨.inl ⟨hends.ovfCount, hends.ovf⟩, fun _ => ⟨lvl, rfl, hcap, ?_⟩⟩
      rw [hends.ovfActive, hroom]
  · exact absurd hi hreset
  · exact absurd hi (hctrl v)
  · exact absurd hi (hcount v)
  · exact absurd hi (hstatus v)
  · exact ⟨.inl ⟨hsame.ovfCount, hsame.ovf⟩, fun hne => absurd hsame.ovfActive hne⟩

end Sys2Proof.Machine
end

section
/-! The demodulator and the timer (40_edge_capture.md R142): a pulse does the same whatever `TS` holds, and keeps
it. -/

namespace Sys2Proof.Machine

/-- A pulse commutes with a change of the timer: it neither reads nor writes the capture state, of which the
timer is part. -/
theorem basPulse_withTs (p : Level) (d x : Word) (s : State) :
    basPulse p d { s with ts := x } = { basPulse p d s with ts := x } := by
  have hkeeps : withCap (basPulse p d s) { s with ts := x } = { basPulse p d s with ts := x } := by
    have hpulse := basPulse_demOnly p d s
    unfold DemOnly at hpulse
    rw [hpulse]
    rfl
  exact (basPulse_withCap p d s { s with ts := x }).trans hkeeps

theorem exec_consume (s : State) : exec .consume s =
    if consumeEnabled s then
      .next (basPulse (endedLevel (nextSlot s s.rd)) (consumedTs s - s.prevTs) (takeEntry s))
    else .refused .consumeNotEnabled := rfl

/-- `CONSUME` does the same whatever the timer holds (41_pulse_classifier.md R150). -/
theorem exec_consume_withTs {s t : State} (x : Word) (h : exec .consume s = .next t) :
    exec .consume { s with ts := x } = .next { t with ts := x } := by
  rw [exec_consume] at h
  split at h
  · next henabled =>
    cases h
    rw [exec_consume, ← basPulse_withTs]
    exact if_pos henabled
  · cases h

/-- A `PULSE_IN` write drops the value or hands its pulse to the bit assembler (41_pulse_classifier.md R151). -/
theorem exec_wrPulseIn (v : Word) (s : State) : exec (.wrPulseIn v) s =
    .next (if pulseInEnabled s then (signedPulse v).elim s fun pulse => basPulse pulse.1 pulse.2 s else s) := by
  change execWrPulseIn v s = _
  unfold execWrPulseIn
  split
  · cases signedPulse v <;> rfl
  · rfl

/-- A `PULSE_IN` write does the same whatever the timer holds (41_pulse_classifier.md R151). -/
theorem exec_wrPulseIn_withTs {s t : State} (v x : Word) (h : exec (.wrPulseIn v) s = .next t) :
    exec (.wrPulseIn v) { s with ts := x } = .next { t with ts := x } := by
  have henabled : pulseInEnabled { s with ts := x } = pulseInEnabled s := rfl
  rw [exec_wrPulseIn] at h ⊢
  cases h
  rw [henabled]
  split
  · cases signedPulse v with
    | none => rfl
    | some pulse => exact congrArg _ (basPulse_withTs pulse.1 pulse.2 x s)
  · rfl

/-- Settles O56, for either operation of DEM. -/
theorem demodulatorIgnoresTheTimer : Obligations.DemodulatorIgnoresTheTimer := by
  rintro s t x i (rfl | ⟨v, rfl⟩) he
  · exact exec_consume_withTs x he
  · exact exec_wrPulseIn_withTs v x he

end Sys2Proof.Machine
end

section
/-! The bands under the reset centres (41_pulse_classifier.md R154, R155). With the centres of 600, 200 and 400 each
band is an interval of numerals around its centre, and the class of a duration is read off the three intervals. -/

namespace Sys2Proof.Machine

/-- The four classes by the band tests themselves (41_pulse_classifier.md R152). -/
theorem classify_iff_inband (s : State) (d : Word) :
    (classify s d = .sync ↔ inband s d s.syncUs = true) ∧
    (classify s d = .zero ↔ ¬ inband s d s.syncUs = true ∧ inband s d s.zeroUs = true) ∧
    (classify s d = .one ↔ ¬ inband s d s.syncUs = true ∧ ¬ inband s d s.zeroUs = true ∧
      inband s d s.oneUs = true) ∧
    (classify s d = .miss ↔ ¬ inband s d s.syncUs = true ∧ ¬ inband s d s.zeroUs = true ∧
      ¬ inband s d s.oneUs = true) := by
  simp only [inband_iff_inBand]
  exact (classifyFollowsTheBands s d).2

/-- The band around a centre, as numbers (00_scope.md R12). -/
theorem inband_iff_of_toNat {s : State} {c : BitVec 16} {centre tol : Nat} (hc : c.toNat = centre)
    (htol : s.tolUs.toNat = tol) (d : Word) :
    inband s d c = true ↔ centre - tol ≤ d.toNat ∧ d.toNat ≤ centre + tol := by
  simp only [inband, bandLo, bandHi, hc, htol, Bool.and_eq_true, decide_eq_true_eq]

section ResetCentres

variable {s : State} {tol : Nat} (hsync : s.syncUs = 600) (hzero : s.zeroUs = 200) (hone : s.oneUs = 400)
  (htol : s.tolUs.toNat = tol)

include hsync hzero hone htol

/-- The three bands around the reset centres, for any tolerance (10_state.md R39). -/
theorem inband_resetCentres_iff (d : Word) :
    (inband s d s.syncUs = true ↔ 600 - tol ≤ d.toNat ∧ d.toNat ≤ 600 + tol) ∧
    (inband s d s.zeroUs = true ↔ 200 - tol ≤ d.toNat ∧ d.toNat ≤ 200 + tol) ∧
    (inband s d s.oneUs = true ↔ 400 - tol ≤ d.toNat ∧ d.toNat ≤ 400 + tol) := by
  rw [hsync, hzero, hone]
  exact ⟨inband_iff_of_toNat rfl htol d, inband_iff_of_toNat rfl htol d, inband_iff_of_toNat rfl htol d⟩

end ResetCentres

/-- Settles O26: the seven ranges against the three intervals of half-width 90, which are disjoint; the overlap flag
is that of the reset state, which has the same four registers. -/
theorem bandTableAtReset : Obligations.BandTableAtReset := by
  refine ⟨fun p => ⟨rfl, rfl, rfl, rfl⟩, fun s d hsync hzero hone htol => ?_⟩
  have hwidth : s.tolUs.toNat = 90 := by rw [htol]; rfl
  obtain ⟨hinSync, hinZero, hinOne⟩ := inband_resetCentres_iff hsync hzero hone hwidth d
  obtain ⟨hisSync, hisZero, hisOne, hisMiss⟩ := classify_iff_inband s d
  have hreset : cfgOverlap (State.resetWith s.params) = false := rfl
  rw [hisSync, hisZero, hisOne, hisMiss, hinSync, hinZero, hinOne]
  refine ⟨?_, ?_, ?_, ?_, ?_, ?_, ?_, ?_, ?_, ?_,
    (cfgOverlap_congr hsync hzero hone htol).trans hreset⟩ <;> omega

/-- Settles O27: the intervals of half-width 150, the point 300 that the zero and the one band share, and the order
of the tests on the three examples. -/
theorem overlappingBandsKeepTheOrder : Obligations.OverlappingBandsKeepTheOrder := by
  refine ⟨fun s d hsync hzero hone htol => ?_, fun v s => rfl, fun s d _ _ => ⟨_, exec_wrPulseIn d s⟩⟩
  have hwidth : s.tolUs.toNat = 150 := by rw [htol]; rfl
  obtain ⟨hinSync, hinZero, hinOne⟩ := inband_resetCentres_iff hsync hzero hone hwidth d
  obtain ⟨hsync300, hzero300, hone300⟩ := inband_resetCentres_iff hsync hzero hone hwidth 300
  obtain ⟨hsync400, hzero400, hone400⟩ := inband_resetCentres_iff hsync hzero hone hwidth 400
  obtain ⟨hsync500, _, _⟩ := inband_resetCentres_iff hsync hzero hone hwidth 500
  obtain ⟨_, hisZero, _, _⟩ := classify_iff_inband s 300
  obtain ⟨_, _, hisOne, _⟩ := classify_iff_inband s 400
  obtain ⟨hisSync, _, _, _⟩ := classify_iff_inband s 500
  obtain ⟨_, _, hbit, _⟩ := statusWord_fields s
  have hoverlap : cfgOverlap s = true :=
    (configOverlapIsACommonPoint.1 s).2 (.inr (.inr ⟨_, (inband_iff_inBand s 300 s.zeroUs).1
      (hzero300.2 (by decide)), (inband_iff_inBand s 300 s.oneUs).1 (hone300.2 (by decide))⟩))
  refine ⟨hinSync, hinZero, hinOne, hoverlap, ⟨statusWord s, rfl, hbit.trans hoverlap⟩, ?_, ?_, ?_⟩
  · rw [hisZero, hsync300, hzero300]
    decide
  · rw [hisSync, hsync500]
    decide
  · rw [hisOne, hsync400, hzero400, hone400]
    decide

end Sys2Proof.Machine
end

section
/-! The signed pulse of a `PULSE_IN` write (41_pulse_classifier.md R151, 45_host_interface.md R265). -/

namespace Sys2Proof.Machine

theorem pulseInEnabled_iff (s : State) : pulseInEnabled s = true ↔ s.demEn = true ∧ s.srcSel = true :=
  Bool.and_eq_true_iff

/-- Bit 31 is the sign. -/
theorem getLsbD_31_eq_decide (v : Word) : v.getLsbD 31 = decide (v.toInt < 0) := by
  rw [← BitVec.msb_eq_toInt, BitVec.msb_eq_getLsbD_last]

theorem signedPulse_of_pos {v : Word} (h : 0 < v.toInt) : signedPulse v = some (.mark, v) := by
  have hv : v ≠ 0 := by rintro rfl; exact absurd h (by decide)
  have hsign : ¬ v.getLsbD 31 = true := by rw [getLsbD_31_eq_decide, decide_eq_true_iff]; omega
  rw [signedPulse, if_neg hv, if_neg hsign]

theorem signedPulse_of_neg {v : Word} (h : v.toInt < 0) : signedPulse v = some (.space, -v) := by
  have hv : v ≠ 0 := by rintro rfl; exact absurd h (by decide)
  have hsign : v.getLsbD 31 = true := by rw [getLsbD_31_eq_decide, decide_eq_true_iff]; exact h
  rw [signedPulse, if_neg hv, if_pos hsign]

/-- The magnitude of a negative word, 2^31 included (41_pulse_classifier.md R151). -/
theorem toNat_neg_of_toInt_neg {v : Word} (h : v.toInt < 0) : (-v).toNat = v.toInt.natAbs := by
  have hv := BitVec.toInt_eq_toNat_cond v
  have hlt := v.isLt
  rw [BitVec.toNat_neg]
  split at hv <;> omega

theorem toNat_of_toInt_pos {v : Word} (h : 0 < v.toInt) : v.toNat = v.toInt.natAbs := by
  have hv := BitVec.toInt_eq_toNat_cond v
  have hlt := v.isLt
  split at hv <;> omega

/-- A word other than 0 stands for one pulse: its sign is the level, its magnitude the duration
(41_pulse_classifier.md R151). -/
theorem signedPulse_of_ne_zero {v : Word} (hv : v ≠ 0) :
    ∃ p d, signedPulse v = some (p, d) ∧ (0 < v.toInt → p = .mark) ∧ (v.toInt < 0 → p = .space) ∧
      d.toNat = v.toInt.natAbs := by
  have hne : v.toInt ≠ 0 := fun h => hv (BitVec.eq_of_toInt_eq h)
  rcases lt_or_gt_of_ne hne with hneg | hpos
  · exact ⟨.space, -v, signedPulse_of_neg hneg, fun hpos => absurd hpos hneg.asymm, fun _ => rfl,
      toNat_neg_of_toInt_neg hneg⟩
  · exact ⟨.mark, v, signedPulse_of_pos hpos, fun _ => rfl, fun hneg => absurd hneg hpos.asymm,
      toNat_of_toInt_pos hpos⟩

/-- A write that is not enabled, or of 0, is dropped (41_pulse_classifier.md R151). -/
theorem exec_wrPulseIn_dropped {v : Word} {s : State} (h : pulseInEnabled s = false ∨ v = 0) :
    exec (.wrPulseIn v) s = .next s := by
  rw [exec_wrPulseIn]
  rcases h with hoff | rfl
  · rw [hoff]
    rfl
  · exact congrArg _ (ite_self s)

/-- An enabled write of a pulse runs `BAS_PULSE` on it (41_pulse_classifier.md R151). -/
theorem exec_wrPulseIn_of_pulse {v d : Word} {p : Level} {s : State} (henabled : pulseInEnabled s = true)
    (hv : signedPulse v = some (p, d)) : exec (.wrPulseIn v) s = .next (basPulse p d s) := by
  rw [exec_wrPulseIn, if_pos henabled, hv]
  rfl

/-- Settles O17: the write is dropped, or the pulse its word stands for goes to the bit assembler. -/
theorem pulseInWriteRunsOnePulse : Obligations.PulseInWriteRunsOnePulse := by
  refine ⟨fun v s hdropped => exec_wrPulseIn_dropped ?_, fun v s hdem hsel hv => ?_⟩
  · rw [← Bool.not_eq_true, pulseInEnabled_iff]
    rcases hdropped with hdem | hsel | hv
    · simp [hdem]
    · simp [hsel]
    · exact .inr hv
  · obtain ⟨p, d, hpulse, hmark, hspace, hmagnitude⟩ := signedPulse_of_ne_zero hv
    exact ⟨p, d, basPulse p d s, exec_wrPulseIn_of_pulse ((pulseInEnabled_iff s).2 ⟨hdem, hsel⟩) hpulse, rfl,
      hmark, hspace, hmagnitude, basPulse_demOnly p d s⟩

end Sys2Proof.Machine
end

section
/-! The pulse that `CONSUME` takes from the ring (41_pulse_classifier.md R150, R153). -/

namespace Sys2Proof.Machine

theorem consumeEnabled_iff (s : State) :
    consumeEnabled s = true ↔ s.demEn = true ∧ s.srcSel = false ∧ s.rd ≠ s.wr := by
  simp [consumeEnabled, ringEmpty, and_assoc]

/-- An even slot ends a mark (41_pulse_classifier.md R153). -/
theorem endedLevel_of_even {c : BitVec 10} (h : c.toNat % 2 = 0) : endedLevel c = .mark := by
  simp [endedLevel, slotLevel_eq, h]

/-- An odd slot ends a space (41_pulse_classifier.md R153). -/
theorem endedLevel_of_odd {c : BitVec 10} (h : c.toNat % 2 = 1) : endedLevel c = .space := by
  simp [endedLevel, slotLevel_eq, h]

/-- Settles O19: where `CONSUME` is enabled the entry is the next slot's, and its pulse goes to the bit assembler. -/
theorem consumeTakesTheNextEntry : Obligations.ConsumeTakesTheNextEntry := by
  intro s
  refine ⟨fun hdem hsel hsome => ?_, fun hdisabled => ?_⟩
  · have hexec := (exec_consume s).trans (if_pos ((consumeEnabled_iff s).2 ⟨hdem, hsel, hsome⟩))
    have hduration : (consumedTs s - s.prevTs).toNat =
        ((consumedTs s).toNat + (2 ^ 32 - s.prevTs.toNat)) % 2 ^ 32 := by
      rw [BitVec.toNat_sub, Nat.add_comm]
    exact ⟨nextSlot s s.rd, consumedTs s, _, _, _, nextSlot_toNat s s.rd, rfl, hduration, endedLevel_of_even,
      endedLevel_of_odd, hexec, rfl, basPulse_demOnly _ _ (takeEntry s)⟩
  · refine (exec_consume s).trans (if_neg ?_)
    rw [consumeEnabled_iff]
    rcases hdisabled with hdem | hsel | hempty
    · simp [hdem]
    · simp [hsel]
    · simp [hempty]

end Sys2Proof.Machine
end

section
/-! The two sources of pulses (41_pulse_classifier.md R157): a pulse does the same to the demodulator whether it comes
from the ring or from `PULSE_IN`. -/

namespace Sys2Proof.Machine

/-- The word that `PULSE_IN` reads as a pulse: the duration of a mark, the negated duration of a space
(41_pulse_classifier.md R151). -/
def signedWord (p : Level) (d : Word) : Word :=
  match p with
  | .mark => d
  | .space => -d

/-- `PULSE_IN` reads back each pulse of duration 1 to 2^31 - 1. -/
theorem signedPulse_signedWord (p : Level) {d : Word} (hpos : 1 ≤ d.toNat) (hmax : d.toNat ≤ 2 ^ 31 - 1) :
    signedPulse (signedWord p d) = some (p, d) := by
  have hneg : (-d).toInt < 0 := by
    have hcond := BitVec.toInt_eq_toNat_cond (-d)
    rw [BitVec.toNat_neg] at hcond
    split at hcond <;> omega
  cases p with
  | mark =>
    have hd : 0 < d.toInt := by rw [BitVec.toInt_eq_toNat_of_lt (by omega)]; omega
    exact signedPulse_of_pos hd
  | space =>
    change signedPulse (-d) = _
    rw [signedPulse_of_neg hneg, BitVec.neg_neg]

/-- A pulse commutes with a change of the source, the consumed slot and `prev_ts`: it neither reads nor writes them
(41_pulse_classifier.md R157). -/
theorem basPulse_withSource (p : Level) (d : Word) (s : State) (sel : Bool) (rd : BitVec 10) (prev : Word) :
    basPulse p d { s with srcSel := sel, rd := rd, prevTs := prev } =
      { basPulse p d s with srcSel := sel, rd := rd, prevTs := prev } := by
  have hkeeps : withCap (basPulse p d s) { s with srcSel := sel, rd := rd, prevTs := prev } =
      { basPulse p d s with srcSel := sel, rd := rd, prevTs := prev } := by
    have hpulse := basPulse_demOnly p d s
    unfold DemOnly at hpulse
    rw [hpulse]
    rfl
  exact (basPulse_withCap p d s { s with srcSel := sel, rd := rd, prevTs := prev }).trans hkeeps

/-- The signed word of the pulse that `CONSUME` takes, its level by the parity of the slot
(41_pulse_classifier.md R150, R153). -/
theorem signedWord_consumed (s : State) : signedWord (endedLevel (nextSlot s s.rd)) (consumedTs s - s.prevTs) =
    if (s.rd.toNat + 1) % s.params.ringSize % 2 = 0 then slot s (s.rd.toNat + 1) - s.prevTs
      else -(slot s (s.rd.toNat + 1) - s.prevTs) := by
  have hstamp : consumedTs s = slot s (s.rd.toNat + 1) := consumedTs_eq s
  rw [hstamp, ← nextSlot_toNat]
  rcases Nat.mod_two_eq_zero_or_one (nextSlot s s.rd).toNat with heven | hodd
  · rw [endedLevel_of_even heven, if_pos heven]
    rfl
  · rw [endedLevel_of_odd hodd, if_neg (by omega)]
    rfl

/-- Settles O55: both operations run `BAS_PULSE` on the same pulse, from states that differ only in what it neither
reads nor writes. -/
theorem pulseSourcesAreEquivalent : Obligations.PulseSourcesAreEquivalent := by
  intro s t rd prev v hconsume hpos hmax hv
  have hstamp : consumedTs s = slot s (s.rd.toNat + 1) := consumedTs_eq s
  rw [← hstamp] at hpos hmax
  rw [← signedWord_consumed] at hv
  rw [exec_consume] at hconsume
  split at hconsume
  · next hon =>
    obtain ⟨hdem, _, _⟩ := (consumeEnabled_iff s).1 hon
    have henabled : pulseInEnabled { s with srcSel := true, rd := rd, prevTs := prev } = true :=
      (pulseInEnabled_iff _).2 ⟨hdem, rfl⟩
    cases hconsume
    rw [hv, exec_wrPulseIn_of_pulse henabled (signedPulse_signedWord _ hpos hmax)]
    exact congrArg _ (basPulse_withSource _ _ (takeEntry s) true rd prev)
  · cases hconsume

end Sys2Proof.Machine
end

section
/-! What a try of the demultiplexer answers (44_decoders.md R201): where it accepts, one more frame is counted;
where it does not, none is, and in `SILENT` mode nothing at all has changed. -/

namespace Sys2Proof.Machine

/-- What a try on `s` may answer: ACCEPTED with one more frame counted, or NONE with no frame counted and, in
`SILENT` mode, nothing changed. -/
inductive TryAnswer (m : Mode) (s : State) : Bool × State → Prop where
  | accepted {t : State} (hcount : t.frameOkCount = s.frameOkCount + 1) : TryAnswer m s (true, t)
  | rejected {t : State} (hcount : t.frameOkCount = s.frameOkCount) (hsilent : m = .silent → t = s) :
      TryAnswer m s (false, t)

theorem validateAndAccept_answer (f : Format) (bs : List Byte) (r : Rec) (m : Mode) (s : State) :
    TryAnswer m s (validateAndAccept f bs r m s) := by
  rcases validateAndAccept_cases f bs r m s with ⟨_, h⟩ | ⟨_, _, h⟩ | ⟨_, _, h⟩ <;> rw [h]
  · exact .rejected (by split <;> rfl) (by rintro rfl; rfl)
  · exact .rejected (by split <;> rfl) (by rintro rfl; rfl)
  · exact .accepted rfl

theorem tryFormat_answer (f : Format) (bs : List Byte) (m : Mode) (s : State) :
    TryAnswer m s (tryFormat f bs m s) := by
  unfold tryFormat
  split
  · obtain ⟨r, hr⟩ := tryRow_eq f bs m s
    rw [hr]
    exact validateAndAccept_answer f bs r m s
  · exact .rejected rfl fun _ => rfl

theorem tryFormats_answer (bs : List Byte) (m : Mode) (fs : List Format) (s : State) :
    TryAnswer m s (tryFormats bs m fs s) := by
  induction fs generalizing s with
  | nil => exact .rejected rfl fun _ => rfl
  | cons f fs ih =>
    have hfirst := tryFormat_answer f bs m s
    unfold tryFormats
    split
    · next t ht => exact ht ▸ hfirst
    · next t ht =>
      rw [ht] at hfirst
      cases hfirst with
      | rejected hcount hsilent =>
        have hrest := ih t
        generalize tryFormats bs m fs t = a at hrest
        cases hrest with
        | accepted hcount' => exact .accepted (hcount'.trans (by rw [hcount]))
        | rejected hcount' hsilent' =>
          exact .rejected (hcount'.trans hcount) fun hm => (hsilent' hm).trans (hsilent hm)

/-- `NO_MATCH` counts no frame (60_exceptions.md R291). -/
theorem noteNoMatch_frameOkCount (bs : List Byte) (m : Mode) (s : State) :
    (noteNoMatch bs m s).frameOkCount = s.frameOkCount := by
  unfold noteNoMatch
  split <;> rfl

/-- `DECODE_STEP` counts a frame exactly where some decoder accepts the bytes (44_decoders.md R201). -/
theorem decodeStep_frameOkCount (n : Nat) (m : Mode) (s : State) : (decodeStep n m s).2.frameOkCount =
    if acceptable (framePrefix s n) then s.frameOkCount + 1 else s.frameOkCount := by
  have hanswer := tryFormats_answer (framePrefix s n) m priority (noteNoMatch (framePrefix s n) m s)
  rw [← decodeStep_fst n m s]
  change TryAnswer m _ (decodeStep n m s) at hanswer
  generalize decodeStep n m s = a at hanswer
  cases hanswer with
  | accepted hcount => exact hcount.trans (by rw [noteNoMatch_frameOkCount]; rfl)
  | rejected hcount _ => exact hcount.trans (noteNoMatch_frameOkCount _ m s)

/-- Bytes that no decoder accepts, tried in `SILENT` mode, leave everything as it is (42_bit_assembler.md R181). -/
theorem decodeStep_silent {n : Nat} {s : State} (h : acceptable (framePrefix s n) = false) :
    decodeStep n .silent s = (false, s) := by
  have hanswer := tryFormats_answer (framePrefix s n) .silent priority s
  rw [← decodeStep_fst n .silent s] at h
  change TryAnswer .silent s (decodeStep n .silent s) at hanswer
  generalize decodeStep n .silent s = a at hanswer h
  cases hanswer with
  | accepted _ => cases h
  | rejected _ hsilent => rw [hsilent rfl]

end Sys2Proof.Machine
end

section
/-! `DECODE_STEP` at a byte boundary is the packet row that the complete bytes decode to (44_decoders.md R201,
30_encoding.md R91): the rows of a format are the codes of its code set, and no code is in two sets. -/

namespace Sys2Proof.Machine

theorem mem_priority (f : Format) : f ∈ priority := by cases f <;> decide

theorem packetRow_code_mem : ∀ r ∈ packetRows, r.code ∈ (fmtRom r.fmt).codes := by decide

theorem exists_packetRow (f : Format) : ∀ c ∈ (fmtRom f).codes, ∃ r ∈ packetRows, r.fmt = f ∧ r.code = c := by
  cases f <;> decide

/-- The code of a row is in no other format's code set (44_decoders.md R244). -/
theorem packetRow_fmt_unique (f : Format) : ∀ r ∈ packetRows, r.code ∈ (fmtRom f).codes → f = r.fmt := by
  cases f <;> decide

theorem formatMatches_iff (f : Format) (bs : List Byte) :
    formatMatches f bs = true ↔ (fmtRom f).len = bs.length ∧ mtype bs ∈ (fmtRom f).codes := by
  simp [formatMatches]

/-- The bytes fit the row: its format's length and its `MTYPE` (30_encoding.md R91). -/
structure FitsRow (r : PacketRow) (bs : List Byte) : Prop where
  mem : r ∈ packetRows
  len : (fmtRom r.fmt).len = bs.length
  code : r.code = mtype bs

/-- A frame decodes to the row its bytes fit (30_encoding.md R91). -/
theorem exists_fits_of_decodeFrame {bs : List Byte} {i : Instr} (h : decodeFrame bs = .ok i) :
    ∃ r, FitsRow r bs ∧ i = r.build bs := by
  unfold decodeFrame at h
  split at h
  · next r hfind =>
    have hfits := List.find?_some hfind
    simp only [Bool.and_eq_true, beq_iff_eq] at hfits
    obtain ⟨hlen, hcode⟩ := hfits
    cases h
    exact ⟨r, ⟨List.mem_of_find?_eq_some hfind, hlen, hcode⟩, rfl⟩
  · cases h

/-- Where a frame decodes to no row, it fits no format. -/
theorem formatMatches_of_decodeFrame_error {bs : List Byte} {e : Reject} (h : decodeFrame bs = .error e)
    (f : Format) : formatMatches f bs = false := by
  unfold decodeFrame at h
  split at h
  · cases h
  · next hfind =>
    rw [← Bool.not_eq_true, formatMatches_iff]
    rintro ⟨hlen, hcode⟩
    obtain ⟨r, hr, rfl, hrcode⟩ := exists_packetRow f _ hcode
    simpa [hlen, hrcode] using List.find?_eq_none.1 hfind r hr

theorem FitsRow.formatMatches {r : PacketRow} {bs : List Byte} (h : FitsRow r bs) :
    formatMatches r.fmt bs = true :=
  (formatMatches_iff _ _).2 ⟨h.len, h.code ▸ packetRow_code_mem r h.mem⟩

theorem FitsRow.formatMatches_other {r : PacketRow} {bs : List Byte} {f : Format} (h : FitsRow r bs)
    (hf : f ≠ r.fmt) : Machine.formatMatches f bs = false := by
  rw [← Bool.not_eq_true, formatMatches_iff, ← h.code]
  exact fun ⟨_, hmem⟩ => hf (packetRow_fmt_unique f r h.mem hmem)

/-- The row as an operation is the format's try in `COUNT` mode (log entry 9). -/
theorem FitsRow.exec_build {r : PacketRow} {bs : List Byte} (h : FitsRow r bs) (s : State) :
    exec (r.build bs) s = .next (tryRow r.fmt bs .count s).2 := by
  obtain ⟨hr, -, hcode⟩ := h
  simp only [packetRows, List.mem_cons, List.not_mem_nil, or_false] at hr
  rcases hr with rfl | rfl | rfl | rfl | rfl | rfl | rfl | rfl | rfl | rfl | rfl | rfl <;>
    (simp only [tryRow, ← hcode]; rfl)

/-- Bytes that fit a row: its format is the one that is tried (44_decoders.md R201, R202). -/
theorem decodeStep_of_fits {r : PacketRow} {n : Nat} {s : State} (m : Mode)
    (h : FitsRow r (framePrefix s n)) :
    decodeStep n m s = tryRow r.fmt (framePrefix s n) m s := by
  have hany : priority.any (fun f => formatMatches f (framePrefix s n)) = true :=
    List.any_eq_true.2 ⟨r.fmt, mem_priority _, h.formatMatches⟩
  have hnote : noteNoMatch (framePrefix s n) m s = s := by
    unfold noteNoMatch
    rw [hany]
    exact if_neg (by simp)
  unfold decodeStep
  rw [hnote]
  exact tryFormats_one m s (mem_priority _) h.formatMatches (by decide) fun f _ hf => h.formatMatches_other hf

/-- At a byte boundary `DECODE_STEP` leaves what the row leaves that the bytes decode to (log entry 9). -/
theorem exec_of_decodeFrame {n : Nat} {s : State} {i : Instr} (h : decodeFrame (framePrefix s n) = .ok i) :
    exec i s = .next (decodeStep n .count s).2 := by
  obtain ⟨r, hfits, rfl⟩ := exists_fits_of_decodeFrame h
  rw [hfits.exec_build s, decodeStep_of_fits .count hfits]

/-- Where the bytes decode to no row, `DECODE_STEP` leaves only the event `NO_MATCH` (log entry 8). -/
theorem decodeStep_of_decodeFrame_error {n : Nat} {s : State} {e : Reject}
    (h : decodeFrame (framePrefix s n) = .error e) : decodeStep n .count s = (false, note s .noMatch) := by
  have hnone := formatMatches_of_decodeFrame_error h
  have hnote : noteNoMatch (framePrefix s n) .count s = note s .noMatch := by
    unfold noteNoMatch
    exact if_pos (by simp [hnone])
  unfold decodeStep
  rw [hnote]
  exact tryFormats_none .count _ fun f _ => hnone f

end Sys2Proof.Machine
end

section
/-! The rows of `BAS_PULSE` (42_bit_assembler.md R170), an equation for each, and the state code each leads to
(R184). -/

namespace Sys2Proof.Machine

/-- A sync pulse of either level, with no bits (42_bit_assembler.md R171). -/
theorem basPulse_sync {s : State} {d : Word} (p : Level) (hbits : s.nbits = 0) (hclass : classify s d = .sync) :
    basPulse p d s = countSync s := by
  rw [basPulse, if_pos hbits]
  exact if_pos hclass

/-- A pulse that neither counts as sync nor starts the data (42_bit_assembler.md R172). -/
theorem basPulse_syncReset {s : State} {d : Word} {p : Level} (hbits : s.nbits = 0)
    (hclass : classify s d ≠ .sync)
    (hno : p = .space ∨ classify s d = .miss ∨ s.syncCnt.toNat ≤ s.syncMin.toNat) :
    basPulse p d s = resetSync s := by
  rw [basPulse, if_pos hbits]
  unfold searchPulse
  rw [if_neg hclass]
  cases p with
  | space => rfl
  | mark =>
    rcases hno with hspace | hmiss | hmin
    · cases hspace
    · rw [hmiss]
      rfl
    · cases dataBit (classify s d) with
      | none => rfl
      | some v => exact if_neg (by omega)

/-- A space while bits are collected (42_bit_assembler.md R178). -/
theorem basPulse_space {s : State} (d : Word) (hbits : s.nbits ≠ 0) : basPulse .space d s = s :=
  if_neg hbits

/-- A data mark appends its bit, where bits are collected or the preamble was long enough
(42_bit_assembler.md R173, R179). -/
theorem basPulse_data {s : State} {d : Word} {v : Bool} (hbit : dataBit (classify s d) = some v)
    (hmin : s.nbits = 0 → s.syncMin.toNat < s.syncCnt.toNat) : basPulse .mark d s = appendBit v s := by
  unfold basPulse
  split
  · next hbits =>
    have hclass : classify s d ≠ .sync := by
      intro hsync
      rw [hsync] at hbit
      cases hbit
    unfold searchPulse
    rw [if_neg hclass, hbit]
    exact if_pos (hmin hbits)
  · unfold collectPulse
    rw [hbit]

/-- A mark that is no data aborts the frame (42_bit_assembler.md R180). -/
theorem basPulse_abort {s : State} {d : Word} (hbits : s.nbits ≠ 0)
    (hclass : classify s d = .sync ∨ classify s d = .miss) : basPulse .mark d s = abortFrame s := by
  rw [basPulse, if_neg hbits]
  rcases hclass with hsync | hmiss
  · rw [hsync]
    rfl
  · rw [hmiss]
    rfl

theorem dataBit_of_class {c : PulseClass} {v : Bool} (h : c = if v then .one else .zero) : dataBit c = some v := by
  cases v <;> exact h ▸ rfl

theorem exists_dataBit {c : PulseClass} (h : c = .zero ∨ c = .one) : ∃ v, dataBit c = some v := by
  rcases h with rfl | rfl
  · exact ⟨false, rfl⟩
  · exact ⟨true, rfl⟩

/-- A bit that completes no byte (42_bit_assembler.md R174). -/
theorem appendBit_inside (v : Bool) {s : State} (hlt : s.nbits.toNat < maxBits)
    (hinside : (s.nbits.toNat + 1) % 8 ≠ 0) : appendBit v s = storeBit v s := by
  rw [appendBit, storeBit_nbits_toNat v s hlt, if_neg hinside]

/-- A bit that completes a byte (42_bit_assembler.md R174, R175). -/
theorem appendBit_boundary (v : Bool) {s : State} (hlt : s.nbits.toNat < maxBits)
    (hboundary : (s.nbits.toNat + 1) % 8 = 0) :
    appendBit v s = byteComplete ((s.nbits.toNat + 1) / 8) (storeBit v s) := by
  rw [appendBit, storeBit_nbits_toNat v s hlt, if_pos hboundary]

/-- What an appended bit does to the frame: it grows by the bit, which is not the 80th, and no frame is counted; or
it is reset, by an accept, which is counted, or by the 80th bit (42_bit_assembler.md R174 to R177). -/
theorem appendBit_grows_or_resets (v : Bool) {s : State} (hlt : s.nbits.toNat < maxBits) :
    ((appendBit v s).nbits.toNat = s.nbits.toNat + 1 ∧ s.nbits.toNat ≠ 79 ∧
      (appendBit v s).frameOkCount = s.frameOkCount) ∨
    ((appendBit v s).nbits = 0 ∧ (appendBit v s).syncCnt = 0 ∧
      ((appendBit v s).frameOkCount = s.frameOkCount + 1 ∨ s.nbits.toNat = 79)) := by
  have hstored := storeBit_nbits_toNat v s hlt
  by_cases hboundary : (s.nbits.toNat + 1) % 8 = 0
  · have hcount := decodeStep_frameOkCount ((s.nbits.toNat + 1) / 8) .count (storeBit v s)
    rw [appendBit_boundary v hlt hboundary]
    rcases byteComplete_cases ((s.nbits.toNat + 1) / 8) (storeBit v s) with
      ⟨haccept, hc⟩ | ⟨_, hmax, hc⟩ | ⟨hnone, hnotMax, hc⟩ <;> rw [hc]
    · rw [if_pos haccept] at hcount
      exact .inr ⟨rfl, rfl, .inl hcount⟩
    · unfold maxBytes at hmax
      exact .inr ⟨rfl, rfl, .inr (by omega)⟩
    · rw [hnone] at hcount
      unfold maxBytes at hnotMax
      rw [(decodeStep_decodeOnly _ _ _).nbits]
      exact .inl ⟨hstored, by omega, hcount⟩
  · rw [appendBit_inside v hlt hboundary]
    exact .inl ⟨hstored, by omega, rfl⟩

/-- Settles O29, by the rows for a sync pulse, a sync reset and a space. -/
theorem syncCountingAndSpaces : Obligations.SyncCountingAndSpaces := by
  intro p d s
  refine ⟨fun hbits hclass => ?_, fun hbits hclass hno => ?_, basPulse_space d⟩
  · refine ⟨_, basPulse_sync p hbits hclass, ?_⟩
    have hlt := s.syncCnt.isLt
    split
    · next hmax =>
      rw [hmax]
      rfl
    · next hmax =>
      have hne : s.syncCnt.toNat ≠ 255 := fun h => hmax (BitVec.eq_of_toNat_eq h)
      rw [BitVec.toNat_add, show (1 : BitVec 8).toNat = 1 from rfl]
      omega
  · rw [basPulse_syncReset hbits hclass hno, resetSync]
    split
    · rw [List.append_nil]
    · rfl

/-- Settles O30: the bit is stored, and no byte is complete. -/
theorem dataMarkAppendsOneBit : Obligations.DataMarkAppendsOneBit := by
  intro v d s hclass hmin hlt hinside
  refine ⟨storeBit v s, ?_, rfl, storeBit_nbits_toNat v s hlt, frameBit_storeBit v s hlt⟩
  rw [basPulse_data (dataBit_of_class hclass) hmin, appendBit_inside v hlt hinside]

/-- Settles O31: the bit is stored, `DECODE_STEP` is the row its bytes decode to, and the three outcomes of a byte
boundary are the three arms of the statement. -/
theorem byteBoundaryTriesTheDecoders : Obligations.ByteBoundaryTriesTheDecoders := by
  intro v d s hclass hbits hlt hboundary
  have hstored := storeBit_nbits_toNat v s hlt
  refine ⟨storeBit v s, (decodeStep ((storeBit v s).nbits.toNat / 8) .count (storeBit v s)).2, rfl, hstored,
    frameBit_storeBit v s hlt, fun i hrow => exec_of_decodeFrame hrow, fun r hnoRow => ?_, ?_⟩
  · rw [decodeStep_of_decodeFrame_error hnoRow]
    rfl
  · rw [basPulse_data (dataBit_of_class hclass) fun h => absurd h hbits, appendBit_boundary v hlt hboundary,
      ← hstored]
    rw [← hstored] at hboundary
    rcases byteComplete_cases ((storeBit v s).nbits.toNat / 8) (storeBit v s) with
      ⟨haccept, hc⟩ | ⟨hnone, hmax, hc⟩ | ⟨hnone, hnotMax, hc⟩
    · rw [hc, haccept]
      rfl
    · unfold maxBytes at hmax
      rw [hc, hnone, if_pos (by omega : (storeBit v s).nbits.toNat = 80)]
      rfl
    · unfold maxBytes at hnotMax
      rw [hc, hnone, if_neg (by omega : ¬ (storeBit v s).nbits.toNat = 80)]
      rfl

/-- Settles O32: the bytes handed over were refused at their own byte boundary, so trying them again in `SILENT`
mode leaves the state as it is. -/
theorem abortIsAFrameReset : Obligations.AbortIsAFrameReset := by
  intro d s hinv hbits hclass
  have hhandover := decodeStep_silent (hinv.noneAcceptable _ le_rfl)
  refine ⟨?_, hhandover⟩
  rw [basPulse_abort hbits hclass, abortFrame, hhandover, ite_self]
  rfl

end Sys2Proof.Machine
end

section
/-! The state codes (10_state.md R35) and the transition table (42_bit_assembler.md R184). -/

namespace Sys2Proof.Machine

theorem fsmCode_awaiting {t : State} (hbits : t.nbits = 0) (hsync : t.syncCnt = 0) : fsmCode t = 0 := by
  rw [fsmCode, if_pos hbits, if_pos hsync]

theorem fsmCode_counting {t : State} (hbits : t.nbits = 0) (hsync : t.syncCnt ≠ 0) : fsmCode t = 1 := by
  rw [fsmCode, if_pos hbits, if_neg hsync]

theorem fsmCode_collecting {t : State} (hbits : t.nbits ≠ 0) : fsmCode t = 2 := if_neg hbits

/-- No state shows DONE (42_bit_assembler.md R182). -/
theorem fsmCode_ne_done (t : State) : fsmCode t ≠ 3 := by
  unfold fsmCode
  split
  · split
    · decide
    · decide
  · decide

/-- A counted sync pulse never leaves the count at 0 (42_bit_assembler.md R171). -/
theorem countSync_syncCnt_ne_zero (s : State) : (countSync s).syncCnt ≠ 0 := by
  rw [countSync_syncCnt]
  split
  · decide
  · next hmax =>
    intro hzero
    bv_omega

theorem ne_zero_of_toNat_succ {t : State} {n : Nat} (h : t.nbits.toNat = n + 1) : t.nbits ≠ 0 := by
  intro hzero
  rw [hzero] at h
  cases h

/-- The state code after an appended bit (42_bit_assembler.md R184): 0 where a frame was counted or the bit was the
80th, else 2. -/
theorem fsmCode_appendBit (v : Bool) {s : State} (hlt : s.nbits.toNat < maxBits) :
    ((appendBit v s).frameOkCount = s.frameOkCount + 1 ∨ s.nbits.toNat = 79 → fsmCode (appendBit v s) = 0) ∧
    ((appendBit v s).frameOkCount = s.frameOkCount → s.nbits.toNat ≠ 79 → fsmCode (appendBit v s) = 2) := by
  have hexclusive (hsame : (appendBit v s).frameOkCount = s.frameOkCount) (hnotLast : s.nbits.toNat ≠ 79) :
      ¬ ((appendBit v s).frameOkCount = s.frameOkCount + 1 ∨ s.nbits.toNat = 79) := by
    rw [hsame, not_or]
    exact ⟨by bv_omega, hnotLast⟩
  rcases appendBit_grows_or_resets v hlt with ⟨hgrows, hnotLast, hsame⟩ | ⟨hbits, hsync, hwhy⟩
  · exact ⟨fun hwhy => absurd hwhy (hexclusive hsame hnotLast),
      fun _ _ => fsmCode_collecting (ne_zero_of_toNat_succ hgrows)⟩
  · exact ⟨fun _ => fsmCode_awaiting hbits hsync,
      fun hsame hnotLast => absurd hwhy (hexclusive hsame hnotLast)⟩

/-- Settles O33, row by row. -/
theorem transitionTable : Obligations.TransitionTable := by
  intro p d s hlt
  refine ⟨fun hbits hclass => ?_, fun hbits hmark hclass hmin => ?_, fun hbits hclass hno => ?_,
    fun hbits hspace => ?_, fun hbits hmark hclass => ?_, fun hbits hmark hclass => ?_, fsmCode_ne_done _⟩
  · rw [basPulse_sync p hbits hclass]
    exact fsmCode_counting hbits (countSync_syncCnt_ne_zero s)
  · obtain ⟨v, hbit⟩ := exists_dataBit hclass
    have hfirst : s.nbits.toNat = 0 := by rw [hbits]; rfl
    rw [hmark, basPulse_data hbit fun _ => hmin, appendBit_inside v hlt (by omega)]
    exact fsmCode_collecting (ne_zero_of_toNat_succ (storeBit_nbits_toNat v s hlt))
  · rw [basPulse_syncReset hbits hclass hno]
    exact fsmCode_awaiting ((resetSync_nbits s).trans hbits) (resetSync_syncCnt s)
  · rw [hspace, basPulse_space d hbits]
    exact fsmCode_collecting hbits
  · rw [hmark, basPulse_abort hbits hclass]
    exact fsmCode_awaiting rfl rfl
  · obtain ⟨v, hbit⟩ := exists_dataBit hclass
    rw [hmark, basPulse_data hbit fun h => absurd h hbits]
    exact fsmCode_appendBit v hlt

end Sys2Proof.Machine
end

section
/-! A run of data marks through `PULSE_IN` (42_bit_assembler.md R185): each grows the frame by a bit or ends it. -/

namespace Sys2Proof.Machine

theorem decode_pulseInWord (d : Word) : decode (.stimulus (pulseInWord d)) = .ok (.wrPulseIn d) :=
  decode_write 0x02C d rfl rfl

/-- A run goes on from the state its first step answers. -/
theorem run_succ_of_step {M : Host.Core} {s t : M.State} (k : Nat) (h : M.step s = .next t) :
    M.run (k + 1) s = M.run k t := by
  simp only [Host.Core.run, h]

/-- A step whose stimulus is an enabled `PULSE_IN` write of a pulse (41_pulse_classifier.md R151). -/
theorem step_pulseIn {s : State} {v d : Word} {p : Level} {rest : List StimWord}
    (hstim : s.stim = pulseInWord v :: rest) (henabled : pulseInEnabled s = true)
    (hv : signedPulse v = some (p, d)) : step s = .next (basPulse p d (beginStep s rest)) := by
  rw [step, hstim]
  simp only [decode_pulseInWord]
  exact exec_wrPulseIn_of_pulse (s := beginStep s rest) henabled hv

/-- A duration in a band is far below 2^31 (00_scope.md R12). -/
theorem toNat_le_of_inBand {s : State} {c : BitVec 16} {d : Word} (h : InBand s c d.toNat) :
    d.toNat ≤ 2 * (2 ^ 16 - 1) := by
  obtain ⟨-, hhi⟩ := h
  have hc := c.isLt
  have htol := s.tolUs.isLt
  omega

/-- A data mark keeps its sign as a `PULSE_IN` value (41_pulse_classifier.md R151). -/
theorem signedPulse_dataMark {s : State} {d : Word} (hd : d ≠ 0)
    (hclass : classify s d = .zero ∨ classify s d = .one) : signedPulse d = some (.mark, d) := by
  have hle : d.toNat ≤ 2 * (2 ^ 16 - 1) := by
    rcases classify_cases s d with ⟨hin, _⟩ | ⟨_, hin, _⟩ | ⟨_, _, hin, _⟩ | ⟨_, _, _, hmiss⟩
    · exact toNat_le_of_inBand hin
    · exact toNat_le_of_inBand hin
    · exact toNat_le_of_inBand hin
    · simp [hmiss] at hclass
  have hne : d.toNat ≠ 0 := fun h => hd (BitVec.eq_of_toNat_eq h)
  exact signedPulse_signedWord .mark (by omega) (by omega)

/-- The class of a duration does not depend on what a pulse writes. -/
theorem DemOnly.classify {s t : State} (h : DemOnly s t) (d : Word) : classify t d = classify s d := by
  unfold DemOnly at h
  rw [h]
  rfl

theorem DemOnly.stim {s t : State} (h : DemOnly s t) : t.stim = s.stim := by rw [h]

theorem DemOnly.demEn {s t : State} (h : DemOnly s t) : t.demEn = s.demEn := by rw [h]

theorem DemOnly.srcSel {s t : State} (h : DemOnly s t) : t.srcSel = s.srcSel := by rw [h]

/-- One data mark while bits are collected: the step ends the frame, or grows it by a bit that is not the 80th and
keeps the enables, the classes and the rest of the stimuli (42_bit_assembler.md R184). -/
theorem step_dataMark {s : State} {d : Word} {rest : List StimWord} (hbits : s.nbits ≠ 0)
    (hlt : s.nbits.toNat < maxBits) (henabled : pulseInEnabled s = true)
    (hstim : s.stim = pulseInWord d :: rest) (hd : d ≠ 0)
    (hclass : classify s d = .zero ∨ classify s d = .one) :
    ∃ t, step s = .next t ∧ DemOnly (beginStep s rest) t ∧
      ((t.nbits = 0 ∧ t.syncCnt = 0) ∨ (t.nbits.toNat = s.nbits.toNat + 1 ∧ s.nbits.toNat ≠ 79)) := by
  obtain ⟨v, hbit⟩ := exists_dataBit hclass
  have hpulse : basPulse .mark d (beginStep s rest) = appendBit v (beginStep s rest) :=
    basPulse_data hbit fun h => absurd h hbits
  refine ⟨_, step_pulseIn hstim henabled (signedPulse_dataMark hd hclass), basPulse_demOnly _ _ _, ?_⟩
  rw [hpulse]
  rcases appendBit_grows_or_resets (s := beginStep s rest) v hlt with ⟨hgrows, hnotLast, _⟩ | ⟨hnone, hsync, _⟩
  · exact .inr ⟨hgrows, hnotLast⟩
  · exact .inl ⟨hnone, hsync⟩

/-- Settles O34, by induction on the marks: a mark that ends the frame ends the run, and one that grows it leaves a
state with one mark less to come. -/
theorem dataMarksEndAFrame : Obligations.DataMarksEndAFrame := by
  intro s ds rest
  induction ds generalizing s with
  | nil =>
    intro _ hlt _ _ _ hlength _
    rw [List.length_nil] at hlength
    omega
  | cons d ds ih =>
    intro hbits hlt hdem hsel hmarks hlength hstim
    obtain ⟨hd, hclass⟩ := hmarks d List.mem_cons_self
    rw [List.length_cons] at hlength
    obtain ⟨t, hstep, honly, ⟨hnone, hsync⟩ | ⟨hgrows, hnotLast⟩⟩ :=
      step_dataMark hbits hlt ((pulseInEnabled_iff s).2 ⟨hdem, hsel⟩) hstim hd hclass
    · exact ⟨1, t, Nat.one_pos, Nat.succ_le_succ (Nat.zero_le _), run_succ_of_step 0 hstep, hnone, hsync⟩
    · have hmarks' : DataMarks t ds := by
        intro e he
        obtain ⟨hne, hdata⟩ := hmarks e (List.mem_cons_of_mem d he)
        rw [honly.classify e]
        exact ⟨hne, hdata⟩
      obtain ⟨k, u, hpos, hle, hrun, hnone, hsync⟩ := ih t (ne_zero_of_toNat_succ hgrows) (by omega)
        (honly.demEn.trans hdem) (honly.srcSel.trans hsel) hmarks' (by omega) honly.stim
      exact ⟨k + 1, u, k.succ_pos, Nat.succ_le_succ hle, (run_succ_of_step k hstep).trans hrun, hnone, hsync⟩

end Sys2Proof.Machine
end

section
/-! The checksum (43_validator.md R190). It is a sum in the bytes, so a changed byte moves it by the difference
between the new value and the old one. -/

namespace Sys2Proof.Machine

theorem byteSum_eq_sum (bs : List Byte) : byteSum bs = bs.sum := List.sum_eq_foldl.symm

theorem byteSum_toNat (bs : List Byte) : (byteSum bs).toNat = (bs.map BitVec.toNat).sum % 256 := by
  rw [byteSum_eq_sum]
  induction bs with
  | nil => rfl
  | cons x xs ih => rw [List.sum_cons, BitVec.toNat_add, ih, List.map_cons, List.sum_cons, Nat.add_mod_mod]

/-- A replaced byte moves the sum by the new value less the old one. -/
theorem byteSum_set {bs : List Byte} {j : Nat} (hj : j < bs.length) (x : Byte) :
    byteSum (bs.set j x) = byteSum bs + (x - bs.getD j 0) := by
  rw [byteSum_eq_sum, byteSum_eq_sum, List.sum_set', dif_pos hj, List.getD_eq_getElem bs 0 hj, neg_add_eq_sub]

/-- `CHECKSUM` in terms of the last byte and those before it (43_validator.md R190). -/
@[simp] theorem checksum_append_singleton (bs : List Byte) (c : Byte) :
    checksum (bs ++ [c]) = true ↔ byteSum bs = c := by
  simp [checksum]

/-- A change of one byte before the last moves the sum away from the checksum byte, and a change of the checksum
byte moves it away from the sum (43_validator.md R194). -/
theorem checksum_set_of_ne {bs : List Byte} {j : Nat} {x : Byte} (hpass : checksum bs = true)
    (hj : j < bs.length) (hne : x ≠ bs.getD j 0) : checksum (bs.set j x) = false := by
  obtain rfl | ⟨init, c, rfl⟩ := bs.eq_nil_or_concat'
  · exact absurd hj (Nat.not_lt_zero j)
  rw [checksum_append_singleton] at hpass
  rw [← Bool.not_eq_true]
  by_cases hinit : j < init.length
  · rw [List.getD_append _ _ _ _ hinit] at hne
    rw [List.set_append_left _ _ hinit, checksum_append_singleton, byteSum_set hinit, hpass, add_eq_left,
      sub_eq_zero]
    exact hne
  · have hlast : j = init.length := by
      rw [List.length_append, List.length_singleton] at hj
      omega
    subst hlast
    rw [List.getD_append_right _ _ _ _ le_rfl, Nat.sub_self, List.getD_cons_zero] at hne
    rw [List.set_append_right _ _ le_rfl, Nat.sub_self, List.set_cons_zero, checksum_append_singleton, hpass]
    exact hne.symm

/-- Opposite changes of two bytes before the last cancel in the sum (43_validator.md R194). -/
theorem checksum_set_opposite {bs : List Byte} {i j : Nat} (d : Byte) (hpass : checksum bs = true)
    (hij : i ≠ j) (hi : i + 1 < bs.length) (hj : j + 1 < bs.length) :
    checksum ((bs.set i (bs.getD i 0 + d)).set j (bs.getD j 0 - d)) = true := by
  obtain rfl | ⟨init, c, rfl⟩ := bs.eq_nil_or_concat'
  · exact absurd hi (Nat.not_lt_zero _)
  rw [List.length_append, List.length_singleton, Nat.add_lt_add_iff_right] at hi hj
  have hj' (x : Byte) : j < (init.set i x).length := by rwa [List.length_set]
  have hkept (x : Byte) : (init.set i x).getD j 0 = init.getD j 0 := by
    rw [List.getD_eq_getElem?_getD, List.getElem?_set_ne hij, List.getD_eq_getElem?_getD]
  rw [checksum_append_singleton] at hpass
  rw [List.getD_append _ _ _ _ hi, List.getD_append _ _ _ _ hj, List.set_append_left _ _ hi,
    List.set_append_left _ _ (hj' _), checksum_append_singleton, byteSum_set (hj' _), hkept, byteSum_set hi,
    hpass]
  abel

end Sys2Proof.Machine
end

section
/-! The parity of a byte and of a range of bytes (43_validator.md R191, R193). The test of a byte is an exclusive-or
of its bits: it is that of the number of ones, and a flipped bit inverts it. -/

namespace Sys2Proof.Machine

/-- The exclusive-or of a test over the members of a list. -/
def xorOver (p : Nat → Bool) (ks : List Nat) : Bool := ks.foldr (fun k odd => p k ^^ odd) false

@[simp] theorem xorOver_nil (p : Nat → Bool) : xorOver p [] = false := rfl

@[simp] theorem xorOver_cons (p : Nat → Bool) (k : Nat) (ks : List Nat) :
    xorOver p (k :: ks) = (p k ^^ xorOver p ks) := rfl

/-- How many members of a list pass a test is odd where the exclusive-or of the test is true. -/
theorem bodd_length_filter (p : Nat → Bool) (ks : List Nat) : (ks.filter p).length.bodd = xorOver p ks := by
  induction ks with
  | nil => simp
  | cons k ks ih => cases hk : p k <;> simp [hk, ih]

theorem xorOver_xor (p q : Nat → Bool) (ks : List Nat) :
    xorOver (fun k => p k ^^ q k) ks = (xorOver p ks ^^ xorOver q ks) := by
  induction ks with
  | nil => rfl
  | cons k ks ih =>
    rw [xorOver_cons, xorOver_cons, xorOver_cons, ih]
    simp only [Bool.xor_assoc, Bool.xor_left_comm]

/-- The test of the top bit against the low seven is a test of all eight (43_validator.md R191). -/
theorem byteParity_eq_not_xorOver (v : Byte) : byteParity v = !xorOver v.getLsbD (List.range 8) := by
  have hrange : List.range 8 = [0, 1, 2, 3, 4, 5, 6, 7] := rfl
  simp only [byteParity, xor7, hrange, xorOver_cons, xorOver_nil]
  cases v.getLsbD 7 <;> simp

theorem byteParity_iff_even_ones (v : Byte) :
    byteParity v = true ↔ ((List.range 8).filter (fun k => v.getLsbD k)).length % 2 = 0 := by
  rw [byteParity_eq_not_xorOver, ← bodd_length_filter, Bool.not_eq_true', Nat.mod_two_of_bodd, Bool.toNat_eq_zero]

theorem byteParity_xor (v w : Byte) : byteParity (v ^^^ w) = (byteParity v == byteParity w) := by
  have hbits : (v ^^^ w).getLsbD = fun k => v.getLsbD k ^^ w.getLsbD k := funext fun _ => BitVec.getLsbD_xor
  simp only [byteParity_eq_not_xorOver, hbits, xorOver_xor]
  cases xorOver v.getLsbD (List.range 8) <;> simp

/-- A flipped bit inverts the parity of its byte (43_validator.md R194). -/
theorem byteParity_flip (v : Byte) {k : Nat} (hk : k < 8) :
    byteParity (v ^^^ (1#8 <<< k)) = !byteParity v := by
  have hsingle : ∀ k < 8, byteParity (1#8 <<< k) = false := by decide
  rw [byteParity_xor, hsingle k hk, beq_false]

theorem parity_iff (bs : List Byte) (lo hi : Nat) (ex : List Nat) :
    parity bs lo hi ex = true ↔ ∀ i, lo ≤ i → i ≤ hi → i ∉ ex → byteParity (bs.getD i 0) = true := by
  have hrange (i : Nat) : i ∈ List.range' lo (hi + 1 - lo) ↔ lo ≤ i ∧ i ≤ hi := by
    rw [List.mem_range'_1]
    omega
  simp only [parity, List.all_eq_true, hrange, Bool.or_eq_true, List.contains_iff_mem, or_iff_not_imp_left,
    and_imp]

theorem parity_iff_evenParity (bs : List Byte) (lo hi : Nat) : parity bs lo hi [] = true ↔ EvenParity bs lo hi := by
  simp [parity_iff, EvenParity]

/-- An exempt index at the low end of a range shortens it by one (44_decoders.md R200, Notos). -/
theorem parity_exempt_low_iff (bs : List Byte) (lo hi : Nat) :
    parity bs lo hi [lo] = true ↔ EvenParity bs (lo + 1) hi := by
  simp only [parity_iff, EvenParity, List.mem_singleton]
  constructor
  · intro h i hlo hhi
    exact h i (Nat.le_of_succ_le hlo) hhi (by omega)
  · intro h i hlo hhi hne
    exact h i (by omega) hhi

/-- An exempt byte is not read. -/
theorem parity_set_exempt (bs : List Byte) (lo hi : Nat) {j : Nat} {ex : List Nat} (x : Byte) (hex : j ∈ ex) :
    parity (bs.set j x) lo hi ex = parity bs lo hi ex := by
  have hkept (i : Nat) (hne : i ∉ ex) : (bs.set j x).getD i 0 = bs.getD i 0 := by
    rw [List.getD_eq_getElem?_getD, List.getElem?_set_ne (ne_of_mem_of_not_mem hex hne), List.getD_eq_getElem?_getD]
  rw [Bool.eq_iff_iff, parity_iff, parity_iff]
  exact forall₃_congr fun i _ _ => forall_congr' fun hne => by rw [hkept i hne]

/-- One byte of odd parity in the range, not exempt, fails the range. -/
theorem parity_set_odd {bs : List Byte} {lo hi j : Nat} {ex : List Nat} {x : Byte} (hlo : lo ≤ j) (hhi : j ≤ hi)
    (hj : j < bs.length) (hex : j ∉ ex) (hx : byteParity x = false) : parity (bs.set j x) lo hi ex = false := by
  rw [← Bool.not_eq_true, parity_iff]
  intro hall
  have hodd := hall j hlo hhi hex
  rw [List.getD_eq_getElem?_getD, List.getElem?_set_self hj, Option.getD_some, hx] at hodd
  exact Bool.false_ne_true hodd

end Sys2Proof.Machine
end

section
/-! What the two checks of the validator are, and what they detect (43_validator.md R190 to R194). -/

namespace Sys2Proof.Machine

/-- Settles O37, with the parity ranges of the format ROM. -/
theorem checksAreSumAndEvenParity : Obligations.ChecksAreSumAndEvenParity := by
  refine ⟨fun bs c => ?_, byteParity_iff_even_ones, fun bs =>
    ⟨parity_iff_evenParity bs 2 5, parity_iff_evenParity bs 2 6, parity_iff_evenParity bs 2 7,
      parity_iff_evenParity bs 2 8, parity_exempt_low_iff bs 2 6, rfl⟩⟩
  rw [checksum_append_singleton, ← BitVec.toNat_inj, byteSum_toNat]

/-- Settles O38: a changed byte moves the sum, and a flipped bit inverts the parity of its byte. -/
theorem whatTheChecksDetect : Obligations.WhatTheChecksDetect := by
  refine ⟨fun bs => (checksum_append_singleton bs _).2 rfl, fun bs j x => checksum_set_of_ne,
    fun v k hk hv => ?_, fun bs lo hi j k ex hpass hlo hhi hj hk => ?_, fun v k l hk hl _ hv => ?_,
    fun bs i j d => checksum_set_opposite d⟩
  · rw [byteParity_flip v hk, hv]
    rfl
  · by_cases hex : j ∈ ex
    · rw [parity_set_exempt bs lo hi _ hex, hpass, decide_eq_true hex]
    · have heven := (parity_iff bs lo hi ex).1 hpass j hlo hhi hex
      rw [decide_eq_false hex]
      exact parity_set_odd hlo hhi hj hex (by rw [byteParity_flip _ hk, heven]; rfl)
  · rw [byteParity_flip _ hl, byteParity_flip v hk, hv]
    rfl

end Sys2Proof.Machine
end

section
/-! The packet rows as tries (44_decoders.md R201, R204 to R215; log entry 9): the format each row tries on its bytes
and the record it extracts. What the validator finds then decides what the row leaves. -/

namespace Sys2Proof.Machine

/-- The operation is a packet row on the bytes `bs`; its format and its record. -/
inductive TriesFormat (p : Params) (bs : List Byte) : Instr → Format → Rec → Prop where
  | tower : TriesFormat p bs (.pktTower bs) .tower (extractTower p bs)
  | rain : TriesFormat p bs (.pktRain bs) .rain (extractRain p bs)
  | lightning : TriesFormat p bs (.pktLtng bs) .lightning (extractLightning p bs)
  | atlas05 : TriesFormat p bs (.pktAtlas05 bs) .atlas (extractAtlas05 p bs)
  | atlas06 : TriesFormat p bs (.pktAtlas06 bs) .atlas (extractAtlas06 p bs)
  | atlas07 : TriesFormat p bs (.pktAtlas07 bs) .atlas (extractAtlas07 p bs)
  | atlas25 : TriesFormat p bs (.pktAtlas25 bs) .atlas (lightningFields p (extractAtlas05 p bs) bs 7)
  | atlas26 : TriesFormat p bs (.pktAtlas26 bs) .atlas (lightningFields p (extractAtlas06 p bs) bs 7)
  | atlas27 : TriesFormat p bs (.pktAtlas27 bs) .atlas (lightningFields p (extractAtlas07 p bs) bs 7)
  | notos : TriesFormat p bs (.pktNotos bs) .notos (extractNotos p bs)
  | iris31 : TriesFormat p bs (.pktIris31 bs) .iris (extractIris31 p bs)
  | iris38 : TriesFormat p bs (.pktIris38 bs) .iris (extractIris38 p bs)

variable {bs : List Byte} {i : Instr} {f : Format} {r : Rec} {s : State}

/-- A packet row is its format's round of `DECODE_STEP` in `COUNT` mode, on its own record. -/
theorem TriesFormat.exec_eq (h : TriesFormat s.params bs i f r) :
    exec i s = .next (validateAndAccept f bs r .count s).2 := by
  cases h <;> rfl

theorem TriesFormat.exec_of_checksum_fails (h : TriesFormat s.params bs i f r) (hsum : checksum bs = false) :
    exec i s = .next (countCsumFail s) := by
  rw [h.exec_eq, validateAndAccept, hsum]
  rfl

theorem TriesFormat.exec_of_parity_fails (h : TriesFormat s.params bs i f r) (hsum : checksum bs = true)
    (hpar : ¬ formatParity f bs = true) : exec i s = .next (countParityFail s) := by
  rw [Bool.not_eq_true] at hpar
  rw [h.exec_eq, validateAndAccept, hsum, hpar]
  rfl

theorem TriesFormat.exec_of_valid (h : TriesFormat s.params bs i f r) (hsum : checksum bs = true)
    (hpar : formatParity f bs = true) : exec i s = .next (accepted s (recWords r)) := by
  rw [h.exec_eq, validateAndAccept, hsum, hpar]
  rfl

end Sys2Proof.Machine
end

section
/-! Packets that fail a check (44_decoders.md R201, 43_validator.md R192): one failure is counted, that of the first
check that fails. -/

namespace Sys2Proof.Machine

/-- Settles O39: every row tries the checksum first. -/
theorem checksumFailureCountsOnce : Obligations.ChecksumFailureCountsOnce := by
  intro bs s hsum
  have hfails {i : Instr} {f : Format} {r : Rec} (h : TriesFormat s.params bs i f r) :
      exec i s = .next { s with csumErrCount := s.csumErrCount + 1, events := s.events ++ [.csumFail] } :=
    h.exec_of_checksum_fails hsum
  simp only [List.forall_mem_cons]
  exact ⟨hfails .tower, hfails .rain, hfails .lightning, hfails .atlas05, hfails .atlas06, hfails .atlas07,
    hfails .atlas25, hfails .atlas26, hfails .atlas27, hfails .notos, hfails .iris31, hfails .iris38,
    List.forall_mem_nil _⟩

/-- Settles O40: after a good checksum a row tries the parity range of its format. -/
theorem parityFailureCountsOnce : Obligations.ParityFailureCountsOnce := by
  intro bs s i lo hi hsum hodd hrow
  have hfails {f : Format} {r : Rec} (h : TriesFormat s.params bs i f r)
      (hrange : formatParity f bs = true ↔ EvenParity bs lo hi) :
      exec i s = .next { s with parErrCount := s.parErrCount + 1, events := s.events ++ [.parityFail] } :=
    h.exec_of_parity_fails hsum fun heven => hodd (hrange.1 heven)
  obtain ⟨-, -, hranges⟩ := checksAreSumAndEvenParity
  obtain ⟨htower, hrain, hlightning, hatlas, hnotos, -⟩ := hranges bs
  simp only [List.mem_cons, Prod.mk.injEq, List.not_mem_nil, or_false] at hrow
  rcases hrow with ⟨rfl, rfl, rfl⟩ | ⟨rfl, rfl, rfl⟩ | ⟨rfl, rfl, rfl⟩ | ⟨rfl, rfl, rfl⟩ | ⟨rfl, rfl, rfl⟩ |
    ⟨rfl, rfl, rfl⟩ | ⟨rfl, rfl, rfl⟩ | ⟨rfl, rfl, rfl⟩ | ⟨rfl, rfl, rfl⟩ | ⟨rfl, rfl, rfl⟩
  · exact hfails .tower htower
  · exact hfails .rain hrain
  · exact hfails .lightning hlightning
  · exact hfails .atlas05 hatlas
  · exact hfails .atlas06 hatlas
  · exact hfails .atlas07 hatlas
  · exact hfails .atlas25 hatlas
  · exact hfails .atlas26 hatlas
  · exact hfails .atlas27 hatlas
  · exact hfails .notos hnotos

end Sys2Proof.Machine
end

section
/-! The discriminators (44_decoders.md R244). Every code of a format is the code of one of its packet rows, and no
row's code is in two code sets, so at most one format fits any bytes and the order of the tries decides nothing. -/

namespace Sys2Proof.Machine

theorem format_eq_of_code {f g : Format} {c : BitVec 6} (hf : c ∈ (fmtRom f).codes) (hg : c ∈ (fmtRom g).codes) :
    f = g := by
  obtain ⟨r, hr, rfl, rfl⟩ := exists_packetRow g c hg
  exact packetRow_fmt_unique f r hr hf

theorem format_eq_of_matches {bs : List Byte} {f g : Format} (hf : formatMatches f bs = true)
    (hg : formatMatches g bs = true) : f = g :=
  format_eq_of_code ((formatMatches_iff f bs).1 hf).2 ((formatMatches_iff g bs).1 hg).2

/-- In every order of the six formats the one that fits is tried, or none is. -/
theorem tryFormats_of_perm {fs : List Format} (hperm : fs.Perm priority) (bs : List Byte) (m : Mode) (s : State) :
    tryFormats bs m fs s = tryFormats bs m priority s := by
  by_cases hfits : ∃ f, formatMatches f bs = true
  · obtain ⟨f, hf⟩ := hfits
    have hother (g : Format) (hne : g ≠ f) : formatMatches g bs = false := by
      rw [← Bool.not_eq_true]
      exact fun hg => hne (format_eq_of_matches hg hf)
    have hnodup : priority.Nodup := by decide
    rw [tryFormats_one m s (hperm.mem_iff.2 (mem_priority f)) hf (hperm.nodup_iff.2 hnodup) fun g _ => hother g,
      tryFormats_one m s (mem_priority f) hf hnodup fun g _ => hother g]
  · simp only [not_exists, Bool.not_eq_true] at hfits
    rw [tryFormats_none m s fun f _ => hfits f, tryFormats_none m s fun f _ => hfits f]

/-- What `DECODE_STEP` in `COUNT` mode may answer: no failure counted, or NONE with one failure counted. -/
def CountsAtMostOne (s : State) : Bool × State → Prop := fun (a, t) =>
  (t.csumErrCount = s.csumErrCount ∧ t.parErrCount = s.parErrCount) ∨
  (a = false ∧ t.csumErrCount = s.csumErrCount + 1 ∧ t.parErrCount = s.parErrCount) ∨
  (a = false ∧ t.csumErrCount = s.csumErrCount ∧ t.parErrCount = s.parErrCount + 1)

theorem validateAndAccept_countsAtMostOne (f : Format) (bs : List Byte) (r : Rec) (s : State) :
    CountsAtMostOne s (validateAndAccept f bs r .count s) := by
  rcases validateAndAccept_cases f bs r .count s with ⟨_, h⟩ | ⟨_, _, h⟩ | ⟨_, _, h⟩ <;> rw [h]
  · exact .inr (.inl ⟨rfl, rfl, rfl⟩)
  · exact .inr (.inr ⟨rfl, rfl, rfl⟩)
  · exact .inl ⟨rfl, rfl⟩

/-- The one format that fits counts at most one failure; where none fits, none is counted. -/
theorem decodeStep_countsAtMostOne (n : Nat) (s : State) : CountsAtMostOne s (decodeStep n .count s) := by
  cases hdecode : decodeFrame (framePrefix s n) with
  | ok i =>
    obtain ⟨row, hfits, -⟩ := exists_fits_of_decodeFrame hdecode
    obtain ⟨r, hr⟩ := tryRow_eq row.fmt (framePrefix s n) .count s
    rw [decodeStep_of_fits .count hfits, hr]
    exact validateAndAccept_countsAtMostOne _ _ _ _
  | error e =>
    rw [decodeStep_of_decodeFrame_error hdecode]
    exact .inl ⟨rfl, rfl⟩

/-- Settles O36, from the uniqueness of the format that a code belongs to. -/
theorem discriminatorsAreDisjoint : Obligations.DiscriminatorsAreDisjoint := by
  refine ⟨fun _ f g _ _ hne c hf hg => hne (format_eq_of_code hf hg), fun f => ?_, ⟨rfl, rfl, rfl⟩, fun f => ?_,
    fun bs f g => format_eq_of_matches, fun bs m fs s hperm => tryFormats_of_perm hperm bs m s,
    fun n s t a h => ?_⟩
  · cases f <;> decide
  · cases f <;> decide
  · have hcounts := decodeStep_countsAtMostOne n s
    rwa [h] at hcounts

/-- A frame is refused under one name only (30_encoding.md R91). -/
theorem reject_of_decodeFrame_error {bs : List Byte} {e : Reject} (h : decodeFrame bs = .error e) : e = .noMatch := by
  unfold decodeFrame at h
  split at h <;> cases h
  rfl

/-- No format is shorter than seven bytes (44_decoders.md R200). -/
theorem seven_le_format_len (f : Format) : 7 ≤ (fmtRom f).len := by cases f <;> decide

theorem decodeFrame_of_short {bs : List Byte} (h : bs.length ≤ 6) : decodeFrame bs = .error .noMatch := by
  cases hdecode : decodeFrame bs with
  | ok i =>
    obtain ⟨row, hfits, -⟩ := exists_fits_of_decodeFrame hdecode
    have hlong := seven_le_format_len row.fmt
    rw [hfits.len] at hlong
    omega
  | error e => rw [reject_of_decodeFrame_error hdecode]

theorem framePrefix_length_le (s : State) (n : Nat) : (framePrefix s n).length ≤ n := List.length_take_le n _

theorem acceptable_of_decodeFrame_error {bs : List Byte} {e : Reject} (h : decodeFrame bs = .error e) :
    acceptable bs = false := by
  simp [acceptable, formatMatches_of_decodeFrame_error h]

/-- Settles O35: the bytes decode to the row of the one format that fits them, or no format fits. -/
theorem decodeStepRunsThePacketRow : Obligations.DecodeStepRunsThePacketRow := by
  refine fun n s => ⟨fun i => exec_of_decodeFrame, decodeStep_fst n .count s, fun e he => ⟨?_, ?_⟩, fun hn => ?_⟩
  · exact decodeStep_of_decodeFrame_error he
  · exact decodeStep_silent (acceptable_of_decodeFrame_error he)
  · exact decodeFrame_of_short ((framePrefix_length_le s n).trans hn)

end Sys2Proof.Machine
end

section
/-! The tables an extractor looks up (10_state.md R41; 44_decoders.md R240 to R243), as numbers. -/

namespace Sys2Proof.Machine

/-- A table lookup is the lookup in the list of its entries. -/
theorem vector_getD_eq_toList_getD {α : Type} {n : Nat} (v : Vector α n) (k : Nat) (d : α) :
    v[k]?.getD d = v.toList.getD k d := by
  rw [List.getD_eq_getElem?_getD, Vector.getElem?_toList]

theorem chLutA_getD_toNat (c : BitVec 2) : (chLutA[c.toNat]?.getD 0).toNat = letterA c.toNat := by
  revert c
  decide

theorem wdirRom_toNat : wdirRom.toList.map BitVec.toNat = [3150, 2475, 2925, 2700, 3375, 2250, 0, 2025, 675, 1350,
    900, 1125, 450, 1575, 225, 1800] := rfl

theorem wdirRom_getD_toNat (k : Nat) :
    (wdirRom[k]?.getD 0).toNat = (wdirRom.toList.map BitVec.toNat).getD k 0 := by
  rw [vector_getD_eq_toList_getD]
  exact (List.getD_map (f := BitVec.toNat) (d := 0#12) ..).symm

/-- The distance is the entry of `LDIST_ROM` (44_decoders.md R243; log entry 4). -/
theorem exists_distKm (p : Params) (j : BitVec 5) :
    ∃ e : Fin 39, p.ldistPred[j.toNat]? = some e ∧ (p.distKm j).toNat = e.val + 2 := by
  refine ⟨p.ldistPred[j.toNat]'j.isLt, Vector.getElem?_eq_getElem _, ?_⟩
  have he := (p.ldistPred[j.toNat]'j.isLt).isLt
  rw [Params.distKm, Vector.getElem?_eq_getElem j.isLt, Option.getD_some, BitVec.toNat_ofNat]
  omega

/-- Settles O59, by evaluating the fixed tables and bounding an entry of `LDIST_ROM`. -/
theorem constantTables : Obligations.ConstantTables := by
  refine ⟨fun _ => ⟨rfl, rfl, rfl, rfl⟩, wdirRom_toNat, ?_, fun p j => ?_, rfl⟩
  · rw [wdirRom_toNat]
    decide
  · obtain ⟨e, -, hkm⟩ := exists_distKm p j
    omega

end Sys2Proof.Machine
end

section
/-! The fields of a record as numbers (44_decoders.md R203 to R216): bit slices of the packet's bytes. -/

namespace Sys2Proof.Machine

theorem byteNum_lt (bs : List Byte) (i : Nat) : byteNum bs i < 256 := (bs.getD i 0).isLt

@[simp] theorem byteAt_toNat (bs : List Byte) (i : Nat) : (byteAt bs i).toNat = byteNum bs i := rfl

theorem byteAt_extractLsb_toNat (bs : List Byte) (i hi lo : Nat) :
    ((byteAt bs i).extractLsb hi lo).toNat = byteNum bs i / 2 ^ lo % 2 ^ (hi - lo + 1) :=
  toNat_extractLsb_eq _ hi lo

theorem toNat_zero_append {m n : Nat} (x : BitVec n) : (0#m ++ x).toNat = x.toNat := by
  rw [toNat_append_add, BitVec.toNat_ofNat, Nat.zero_mod, Nat.zero_mul, Nat.zero_add]

/-- Two slices side by side: most fields are made so. -/
theorem slices_toNat (bs : List Byte) (i hi lo j hi' lo' : Nat) :
    ((byteAt bs i).extractLsb hi lo ++ (byteAt bs j).extractLsb hi' lo').toNat =
      byteNum bs i / 2 ^ lo % 2 ^ (hi - lo + 1) * 2 ^ (hi' - lo' + 1) +
        byteNum bs j / 2 ^ lo' % 2 ^ (hi' - lo' + 1) := by
  rw [toNat_append_add, byteAt_extractLsb_toNat, byteAt_extractLsb_toNat]

@[simp] theorem addr14_toNat (bs : List Byte) : (addr14 bs).toNat = byteNum bs 0 % 64 * 256 + byteNum bs 1 := by
  refine (toNat_append_add _ _).trans ?_
  simp

@[simp] theorem temp12_toNat (bs : List Byte) :
    (temp12 bs).toNat = byteNum bs 4 % 32 * 128 + byteNum bs 5 % 128 := by
  refine (slices_toNat bs 4 4 0 5 6 0).trans ?_
  simp

@[simp] theorem atlasDir_toNat (bs : List Byte) :
    (atlasDir bs).toNat = byteNum bs 4 % 32 * 32 + byteNum bs 5 / 4 % 32 := by
  refine (slices_toNat bs 4 4 0 5 6 2).trans ?_
  simp

theorem extractRain_rainCnt_toNat (p : Params) (bs : List Byte) : (extractRain p bs).rainCnt.toNat =
    byteNum bs 4 % 128 * 2 ^ 14 + byteNum bs 5 % 128 * 2 ^ 7 + byteNum bs 6 % 128 := by
  refine (toNat_append_add _ _).trans ?_
  rw [slices_toNat, byteAt_extractLsb_toNat]
  omega

theorem extractAtlas_addr_toNat (p : Params) (bs : List Byte) :
    (extractAtlas p bs).addr.toNat = byteNum bs 0 % 4 * 256 + byteNum bs 1 := by
  refine (toNat_append_add _ _).trans ?_
  rw [toNat_zero_append]
  simp

theorem extractAtlas_wspdRaw_toNat (p : Params) (bs : List Byte) :
    (extractAtlas p bs).wspdRaw.toNat = byteNum bs 3 % 128 * 2 + byteNum bs 4 / 64 % 2 := by
  refine (slices_toNat bs 3 6 0 4 6 6).trans ?_
  simp

theorem extractAtlas06_rainCnt_toNat (p : Params) (bs : List Byte) :
    (extractAtlas06 p bs).rainCnt.toNat = byteNum bs 5 % 4 * 128 + byteNum bs 6 % 128 := by
  refine (toNat_append_add _ _).trans ?_
  rw [toNat_zero_append]
  simp

theorem extractAtlas06_wdirRaw_toNat (p : Params) (bs : List Byte) :
    (extractAtlas06 p bs).wdirRaw.toNat = byteNum bs 4 % 32 * 32 + byteNum bs 5 / 4 % 32 := atlasDir_toNat bs

/-- Ten times a direction of ten bits fits the fourteen bits of `WDIR_D10` (44_decoders.md R208). -/
theorem extractAtlas06_wdirD10_toNat (p : Params) (bs : List Byte) :
    (extractAtlas06 p bs).wdirD10.toNat = (byteNum bs 4 % 32 * 32 + byteNum bs 5 / 4 % 32) * 10 := by
  refine (BitVec.toNat_ofNat _ 14).trans ?_
  rw [atlasDir_toNat]
  omega

theorem extractAtlas07_luxRaw_toNat (p : Params) (bs : List Byte) :
    (extractAtlas07 p bs).luxRaw.toNat = byteNum bs 5 % 128 * 128 + byteNum bs 6 % 128 := by
  refine (slices_toNat bs 5 6 0 6 6 0).trans ?_
  simp

theorem extractNotos_wspdRaw_toNat (p : Params) (bs : List Byte) :
    (extractNotos p bs).wspdRaw.toNat = byteNum bs 6 % 128 := by
  refine (toNat_zero_append _).trans ?_
  simp

theorem extractIris_addr_toNat (p : Params) (bs : List Byte) :
    (extractIris p bs).addr.toNat = byteNum bs 0 % 16 * 256 + byteNum bs 1 := by
  refine (toNat_append_add _ _).trans ?_
  rw [toNat_zero_append]
  simp

theorem extractIris_wspdRaw_toNat (p : Params) (bs : List Byte) :
    (extractIris p bs).wspdRaw.toNat = byteNum bs 3 % 32 * 8 + byteNum bs 4 / 16 % 8 := by
  refine (slices_toNat bs 3 4 0 4 6 4).trans ?_
  simp

theorem extractIris31_rainCnt_toNat (p : Params) (bs : List Byte) :
    (extractIris31 p bs).rainCnt.toNat = byteNum bs 5 % 128 * 128 + byteNum bs 6 % 128 := by
  refine (toNat_append_add _ _).trans ?_
  rw [toNat_zero_append]
  simp

theorem extractIris31_wdirRaw_toNat (p : Params) (bs : List Byte) :
    (extractIris31 p bs).wdirRaw.toNat = byteNum bs 4 % 16 := by
  refine (toNat_zero_append _).trans ?_
  simp

/-- The direction is the compass entry of the index in `b4[3:0]` (44_decoders.md R214, R242). -/
theorem extractIris31_wdirD10_toNat (p : Params) (bs : List Byte) :
    (extractIris31 p bs).wdirD10.toNat = (wdirRom.toList.map BitVec.toNat).getD (byteNum bs 4 % 16) 0 := by
  have hindex : ((byteAt bs 4).extractLsb 3 0).toNat = byteNum bs 4 % 16 := by simp
  refine (toNat_zero_append _).trans ?_
  rw [wdirRom_getD_toNat, hindex]

theorem extractIris38_tempRaw_toNat (p : Params) (bs : List Byte) :
    (extractIris38 p bs).tempRaw.toNat = byteNum bs 4 % 16 * 128 + byteNum bs 5 % 128 := by
  refine (toNat_append_add _ _).trans ?_
  rw [toNat_zero_append]
  simp

end Sys2Proof.Machine
end

section
/-! `RES0` of a record (44_decoders.md R203, 30_encoding.md R112): every extractor takes it from `EXTRACT_COMMON`. -/

namespace Sys2Proof.Machine

theorem mtype_of_packetShape {len : Nat} {code : BitVec 6} {bs : List Byte} (h : packetShape len code bs = true) :
    mtype bs = code := by
  simp only [packetShape, Bool.and_eq_true, beq_iff_eq] at h
  exact h.2

theorem channelCode_toNat (bs : List Byte) : ((byteAt bs 0).extractLsb 7 6).toNat = byteNum bs 0 / 64 := by
  have hlt := byteNum_lt bs 0
  rw [byteAt_extractLsb_toNat]
  omega

theorem channelChar_lutA_toNat (p : Params) (bs : List Byte) :
    (channelChar p .lutA ((byteAt bs 0).extractLsb 7 6)).toNat = letterA (byteNum bs 0 / 64) := by
  rw [← channelCode_toNat]
  exact chLutA_getD_toNat _

theorem channelChar_lutB_toNat (p : Params) (bs : List Byte) :
    (channelChar p .lutB ((byteAt bs 0).extractLsb 7 6)).toNat =
      byteNum p.chLutB.toList (byteNum bs 0 / 64) := by
  rw [← channelCode_toNat, byteNum, ← vector_getD_eq_toList_getD]
  rfl

theorem extractCommon_w0_toNat (p : Params) (f : Format) (bs : List Byte) :
    (recWords (extractCommon p f bs)).w0.toNat =
      headerNum (fmtRom f).id.toNat (mtype bs).toNat
        (channelChar p (fmtRom f).lut ((byteAt bs 0).extractLsb 7 6)).toNat (fmtRom f).len bs := by
  have hlen : (BitVec.ofNat 4 (fmtRom f).len).toNat = (fmtRom f).len := by cases f <;> rfl
  rw [recWords_w0, headerNum, ← channelCode_toNat]
  simp [extractCommon, hlen, Nat.shiftRight_eq_div_pow]

theorem TriesFormat.w0_eq {p : Params} {bs : List Byte} {i : Instr} {f : Format} {r : Rec}
    (h : TriesFormat p bs i f r) : (recWords r).w0 = (recWords (extractCommon p f bs)).w0 := by
  cases h <;> rfl

/-- `RES0` of a packet row's record, for a packet of the row's `MTYPE`. -/
theorem TriesFormat.w0_toNat {p : Params} {bs : List Byte} {i : Instr} {f : Format} {r : Rec} {len letter : Nat}
    {code : BitVec 6} (h : TriesFormat p bs i f r) (hshape : packetShape len code bs = true)
    (hletter : (channelChar p (fmtRom f).lut ((byteAt bs 0).extractLsb 7 6)).toNat = letter) :
    (recWords r).w0.toNat = headerNum (fmtRom f).id.toNat code.toNat letter (fmtRom f).len bs := by
  rw [h.w0_eq, extractCommon_w0_toNat, mtype_of_packetShape hshape, hletter]

end Sys2Proof.Machine
end

section
/-! The words `RES1` to `RES5` of each record as numbers (30_encoding.md R112; 44_decoders.md R204 to R215): a word
with no field of the format is 0. -/

namespace Sys2Proof.Machine

variable (p : Params) (bs : List Byte)

theorem extractTower_w1_toNat : (recWords (extractTower p bs)).w1.toNat =
    byteNum bs 0 % 64 * 256 + byteNum bs 1 + 2 ^ 14 * (byteNum bs 3 % 128) + 2 ^ 21 * 3 := by
  simp [recWords_w1, extractTower, extractCommon, presentTemp, presentHum]

theorem extractTower_w2_toNat : (recWords (extractTower p bs)).w2.toNat =
    byteNum bs 4 % 32 * 128 + byteNum bs 5 % 128 := by
  simp [recWords_w2, extractTower, extractCommon]

theorem extractTower_w3 : (recWords (extractTower p bs)).w3 = 0 := recWords_w3_zero _ rfl rfl rfl

theorem extractTower_w4 : (recWords (extractTower p bs)).w4 = 0 := recWords_w4_zero _ rfl rfl rfl

theorem extractTower_w5 : (recWords (extractTower p bs)).w5 = 0 := recWords_w5_zero _ rfl

theorem extractRain_w1_toNat : (recWords (extractRain p bs)).w1.toNat =
    byteNum bs 0 % 64 * 256 + byteNum bs 1 + 2 ^ 21 * 4 := by
  simp [recWords_w1, extractRain, extractCommon, presentRain]

theorem extractRain_w3_toNat : (recWords (extractRain p bs)).w3.toNat =
    byteNum bs 4 % 128 * 2 ^ 14 + byteNum bs 5 % 128 * 2 ^ 7 + byteNum bs 6 % 128 := by
  rw [recWords_w3, extractRain_rainCnt_toNat]
  simp [extractRain, extractCommon]

theorem extractAtlas05_w1_toNat : (recWords (extractAtlas05 p bs)).w1.toNat =
    byteNum bs 0 % 4 * 256 + byteNum bs 1 + 2 ^ 14 * (byteNum bs 6 % 128) + 2 ^ 21 * 11 := by
  simp only [recWords_w1, extractAtlas05, extractAtlas_addr_toNat]
  simp [extractAtlas, extractCommon, presentWspd, presentTemp, presentHum]

theorem extractAtlas05_w2_toNat : (recWords (extractAtlas05 p bs)).w2.toNat =
    byteNum bs 4 % 32 * 128 + byteNum bs 5 % 128 +
      2 ^ 12 * (byteNum bs 3 % 128 * 2 + byteNum bs 4 / 64 % 2) := by
  simp only [recWords_w2, extractAtlas05, extractAtlas_wspdRaw_toNat]
  simp [extractAtlas, extractCommon]

theorem extractAtlas05_w3 : (recWords (extractAtlas05 p bs)).w3 = 0 := recWords_w3_zero _ rfl rfl rfl

theorem extractAtlas05_w4 : (recWords (extractAtlas05 p bs)).w4 = 0 := recWords_w4_zero _ rfl rfl rfl

theorem extractAtlas05_w5 : (recWords (extractAtlas05 p bs)).w5 = 0 := recWords_w5_zero _ rfl

theorem extractAtlas06_w1_toNat : (recWords (extractAtlas06 p bs)).w1.toNat =
    byteNum bs 0 % 4 * 256 + byteNum bs 1 + 2 ^ 21 * 28 := by
  simp only [recWords_w1, extractAtlas06, extractAtlas_addr_toNat]
  simp [extractAtlas, extractCommon, presentWspd, presentWdir, presentRain]

theorem extractAtlas06_w2_toNat : (recWords (extractAtlas06 p bs)).w2.toNat =
    2 ^ 12 * (byteNum bs 3 % 128 * 2 + byteNum bs 4 / 64 % 2) := by
  simp only [recWords_w2, extractAtlas06, extractAtlas_wspdRaw_toNat]
  simp [extractAtlas, extractCommon]

theorem extractAtlas06_w3_toNat : (recWords (extractAtlas06 p bs)).w3.toNat =
    byteNum bs 5 % 4 * 128 + byteNum bs 6 % 128 := by
  rw [recWords_w3, extractAtlas06_rainCnt_toNat]
  simp [extractAtlas06, extractAtlas, extractCommon]

theorem extractAtlas06_w4_toNat : (recWords (extractAtlas06 p bs)).w4.toNat =
    (byteNum bs 4 % 32 * 32 + byteNum bs 5 / 4 % 32) +
      2 ^ 10 * ((byteNum bs 4 % 32 * 32 + byteNum bs 5 / 4 % 32) * 10) := by
  rw [recWords_w4, extractAtlas06_wdirRaw_toNat, extractAtlas06_wdirD10_toNat]
  simp [extractAtlas06, extractAtlas, extractCommon]

theorem extractAtlas06_w5 : (recWords (extractAtlas06 p bs)).w5 = 0 := recWords_w5_zero _ rfl

theorem extractAtlas07_w1_toNat : (recWords (extractAtlas07 p bs)).w1.toNat =
    byteNum bs 0 % 4 * 256 + byteNum bs 1 + 2 ^ 21 * 40 := by
  simp only [recWords_w1, extractAtlas07, extractAtlas_addr_toNat]
  simp [extractAtlas, extractCommon, presentWspd, presentUvLux]

theorem extractAtlas07_w2_toNat : (recWords (extractAtlas07 p bs)).w2.toNat =
    2 ^ 12 * (byteNum bs 3 % 128 * 2 + byteNum bs 4 / 64 % 2) := by
  simp only [recWords_w2, extractAtlas07, extractAtlas_wspdRaw_toNat]
  simp [extractAtlas, extractCommon]

theorem extractAtlas07_w3 : (recWords (extractAtlas07 p bs)).w3 = 0 := recWords_w3_zero _ rfl rfl rfl

theorem extractAtlas07_w4_toNat : (recWords (extractAtlas07 p bs)).w4.toNat = 2 ^ 24 * (byteNum bs 4 % 16) := by
  simp [recWords_w4, extractAtlas07, extractAtlas, extractCommon]

theorem extractAtlas07_w5_toNat : (recWords (extractAtlas07 p bs)).w5.toNat =
    byteNum bs 5 % 128 * 128 + byteNum bs 6 % 128 := by
  rw [recWords_w5, extractAtlas07_luxRaw_toNat]

theorem extractNotos_w1_toNat : (recWords (extractNotos p bs)).w1.toNat =
    byteNum bs 0 % 64 * 256 + byteNum bs 1 + 2 ^ 14 * (byteNum bs 3 % 128) + 2 ^ 21 * 11 := by
  simp [recWords_w1, extractNotos, extractCommon, presentTemp, presentHum, presentWspd]

theorem extractNotos_w2_toNat : (recWords (extractNotos p bs)).w2.toNat =
    byteNum bs 4 % 32 * 128 + byteNum bs 5 % 128 + 2 ^ 12 * (byteNum bs 6 % 128) := by
  rw [recWords_w2, extractNotos_wspdRaw_toNat]
  simp [extractNotos, extractCommon]

theorem extractIris31_w1_toNat : (recWords (extractIris31 p bs)).w1.toNat =
    byteNum bs 0 % 16 * 256 + byteNum bs 1 + 2 ^ 21 * 28 := by
  simp only [recWords_w1, extractIris31, extractIris_addr_toNat]
  simp [extractIris, extractCommon, presentWspd, presentWdir, presentRain]

theorem extractIris31_w2_toNat : (recWords (extractIris31 p bs)).w2.toNat =
    2 ^ 12 * (byteNum bs 3 % 32 * 8 + byteNum bs 4 / 16 % 8) := by
  simp only [recWords_w2, extractIris31, extractIris_wspdRaw_toNat]
  simp [extractIris, extractCommon]

theorem extractIris31_w3_toNat : (recWords (extractIris31 p bs)).w3.toNat =
    byteNum bs 5 % 128 * 128 + byteNum bs 6 % 128 := by
  rw [recWords_w3, extractIris31_rainCnt_toNat]
  simp [extractIris31, extractIris, extractCommon]

theorem extractIris31_w4_toNat : (recWords (extractIris31 p bs)).w4.toNat =
    byteNum bs 4 % 16 + 2 ^ 10 * (wdirRom.toList.map BitVec.toNat).getD (byteNum bs 4 % 16) 0 := by
  rw [recWords_w4, extractIris31_wdirRaw_toNat, extractIris31_wdirD10_toNat]
  simp [extractIris31, extractIris, extractCommon]

theorem extractIris38_w1_toNat : (recWords (extractIris38 p bs)).w1.toNat =
    byteNum bs 0 % 16 * 256 + byteNum bs 1 + 2 ^ 14 * (byteNum bs 6 % 128) + 2 ^ 21 * 11 := by
  simp only [recWords_w1, extractIris38, extractIris_addr_toNat]
  simp [extractIris, extractCommon, presentWspd, presentTemp, presentHum]

theorem extractIris38_w2_toNat : (recWords (extractIris38 p bs)).w2.toNat =
    byteNum bs 4 % 16 * 128 + byteNum bs 5 % 128 + 2 ^ 12 * (byteNum bs 3 % 32 * 8 + byteNum bs 4 / 16 % 8) := by
  rw [recWords_w2, extractIris38_tempRaw_toNat]
  simp only [extractIris38, extractIris_wspdRaw_toNat]
  simp [extractIris, extractCommon]

end Sys2Proof.Machine
end

section
/-! Frames that are accepted with a record of no lightning fields (44_decoders.md R204, R205, R213 to R215). -/

namespace Sys2Proof.Machine

/-- Settles O41, word by word. -/
theorem towerFrameIsAccepted : Obligations.TowerFrameIsAccepted := by
  intro bs s hshape hsum heven
  have hrow : TriesFormat s.params bs _ _ _ := .tower
  exact ⟨_, hrow.exec_of_valid hsum ((parity_iff_evenParity bs 2 5).2 heven),
    hrow.w0_toNat hshape (channelChar_lutA_toNat _ bs), extractTower_w1_toNat _ bs, extractTower_w2_toNat _ bs,
    extractTower_w3 _ bs, extractTower_w4 _ bs, extractTower_w5 _ bs⟩

/-- Settles O42: Rain is the one format that takes the letter from `CH_LUT_B`. -/
theorem rainFrameIsAccepted : Obligations.RainFrameIsAccepted := by
  intro bs s hshape hsum heven
  have hrow : TriesFormat s.params bs _ _ _ := .rain
  exact ⟨_, hrow.exec_of_valid hsum ((parity_iff_evenParity bs 2 6).2 heven),
    hrow.w0_toNat hshape (channelChar_lutB_toNat _ bs), extractRain_w1_toNat _ bs, recWords_w2_zero _ rfl rfl rfl,
    extractRain_w3_toNat _ bs, recWords_w4_zero _ rfl rfl rfl, recWords_w5_zero _ rfl⟩

/-- Settles O47: the exempt byte 2 leaves the range 3..6. -/
theorem notosFrameIsAccepted : Obligations.NotosFrameIsAccepted := by
  intro bs s hshape hsum heven
  have hrow : TriesFormat s.params bs _ _ _ := .notos
  exact ⟨_, hrow.exec_of_valid hsum ((parity_exempt_low_iff bs 2 6).2 heven),
    hrow.w0_toNat hshape (channelChar_lutA_toNat _ bs), extractNotos_w1_toNat _ bs, extractNotos_w2_toNat _ bs,
    recWords_w3_zero _ rfl rfl rfl, recWords_w4_zero _ rfl rfl rfl, recWords_w5_zero _ rfl⟩

/-- Settles O48: Iris has no parity range. -/
theorem irisFramesAreAccepted : Obligations.IrisFramesAreAccepted := by
  intro bs s hsum
  have hpar : formatParity .iris bs = true := rfl
  have hletter := channelChar_lutA_toNat s.params bs
  constructor <;> intro hshape
  · have hrow : TriesFormat s.params bs _ _ _ := .iris31
    exact ⟨_, hrow.exec_of_valid hsum hpar, hrow.w0_toNat hshape hletter, extractIris31_w1_toNat _ bs,
      extractIris31_w2_toNat _ bs, extractIris31_w3_toNat _ bs, wdirRom_toNat ▸ extractIris31_w4_toNat _ bs,
      recWords_w5_zero _ rfl⟩
  · have hrow : TriesFormat s.params bs _ _ _ := .iris38
    exact ⟨_, hrow.exec_of_valid hsum hpar, hrow.w0_toNat hshape hletter, extractIris38_w1_toNat _ bs,
      extractIris38_w2_toNat _ bs, recWords_w3_zero _ rfl rfl rfl, recWords_w4_zero _ rfl rfl rfl,
      recWords_w5_zero _ rfl⟩

end Sys2Proof.Machine
end

section
/-! The lightning fields (44_decoders.md R216): what they add to the words of a record that has none. -/

namespace Sys2Proof.Machine

/-- The distance of the index in the low five bits of byte `i` (44_decoders.md R216, R243). -/
def distanceAt (p : Params) (bs : List Byte) (i : Nat) : Nat := (p.distKm ((byteAt bs i).extractLsb 4 0)).toNat

theorem exists_distanceAt (p : Params) (bs : List Byte) (i : Nat) :
    ∃ e : Fin 39, p.ldistPred[byteNum bs i % 32]? = some e ∧ distanceAt p bs i = e.val + 2 := by
  have hindex : ((byteAt bs i).extractLsb 4 0).toNat = byteNum bs i % 32 := by simp
  obtain ⟨e, hentry, hkm⟩ := exists_distKm p ((byteAt bs i).extractLsb 4 0)
  exact ⟨e, hindex ▸ hentry, hkm⟩

/-- The record carries no lightning field, and its `PRESENT` has no LTNG. -/
structure NoLightning (r : Rec) : Prop where
  strikes : r.strikes.toNat = 0
  rfi : r.rfi.toNat = 0
  distIdx : r.distIdx.toNat = 0
  distKm : r.distKm.toNat = 0
  present : r.present.toNat < 2 ^ 6

/-- The words `w'` are the words `w`, and where `flag` is 1 the lightning fields of bytes `i` and `i + 1` too. -/
structure AddsLightning (p : Params) (bs : List Byte) (i flag : Nat) (w w' : RecWords) : Prop where
  w1 : w'.w1.toNat = w.w1.toNat + flag * (2 ^ 27 + 2 ^ 28 * (byteNum bs (i + 1) / 32 % 2))
  w2 : w'.w2.toNat = w.w2.toNat + flag * 2 ^ 20 * (byteNum bs i % 128 * 2 + byteNum bs (i + 1) / 64 % 2)
  w3 : w'.w3.toNat =
    w.w3.toNat + flag * (2 ^ 21 * (byteNum bs (i + 1) % 32) + 2 ^ 26 * distanceAt p bs (i + 1))
  w4 : w'.w4 = w.w4
  w5 : w'.w5 = w.w5

theorem AddsLightning.of_flag_zero (p : Params) (bs : List Byte) (i : Nat) (w : RecWords) :
    AddsLightning p bs i 0 w w := by
  constructor <;> simp

/-- A `PRESENT` without LTNG gains 64 by it (30_encoding.md R110). -/
theorem or_presentLtng_toNat {v : BitVec 7} (h : v.toNat < 2 ^ 6) : (v ||| presentLtng).toNat = v.toNat + 64 := by
  rw [BitVec.toNat_or, Nat.or_comm, Nat.add_comm]
  exact (Nat.two_pow_add_eq_or_of_lt h 1).symm

theorem lightningFields_strikes_toNat (p : Params) (r : Rec) (bs : List Byte) (i : Nat) :
    (lightningFields p r bs i).strikes.toNat = byteNum bs i % 128 * 2 + byteNum bs (i + 1) / 64 % 2 := by
  refine (slices_toNat bs i 6 0 (i + 1) 6 6).trans ?_
  simp

theorem lightningFields_rfi_toNat (p : Params) (r : Rec) (bs : List Byte) (i : Nat) :
    (lightningFields p r bs i).rfi.toNat = byteNum bs (i + 1) / 32 % 2 := byteAt_extractLsb_toNat bs (i + 1) 5 5

theorem lightningFields_distIdx_toNat (p : Params) (r : Rec) (bs : List Byte) (i : Nat) :
    (lightningFields p r bs i).distIdx.toNat = byteNum bs (i + 1) % 32 := by
  refine (byteAt_extractLsb_toNat bs (i + 1) 4 0).trans ?_
  simp

theorem lightningFields_distKm_toNat (p : Params) (r : Rec) (bs : List Byte) (i : Nat) :
    (lightningFields p r bs i).distKm.toNat = distanceAt p bs (i + 1) := rfl

theorem lightningFields_present_toNat (p : Params) {r : Rec} (bs : List Byte) (i : Nat)
    (h : r.present.toNat < 2 ^ 6) : (lightningFields p r bs i).present.toNat = r.present.toNat + 64 := or_presentLtng_toNat h

theorem lightningFields_addsLightning (p : Params) {r : Rec} (bs : List Byte) (i : Nat) (h : NoLightning r) :
    AddsLightning p bs i 1 (recWords r) (recWords (lightningFields p r bs i)) where
  w1 := by
    have haddr : (lightningFields p r bs i).addr = r.addr := rfl
    have hhum : (lightningFields p r bs i).hum = r.hum := rfl
    rw [recWords_w1, recWords_w1, haddr, hhum, lightningFields_present_toNat p bs i h.present,
      lightningFields_rfi_toNat, h.rfi]
    omega
  w2 := by
    have htemp : (lightningFields p r bs i).tempRaw = r.tempRaw := rfl
    have hwind : (lightningFields p r bs i).wspdRaw = r.wspdRaw := rfl
    rw [recWords_w2, recWords_w2, htemp, hwind, lightningFields_strikes_toNat, h.strikes]
    omega
  w3 := by
    have hrain : (lightningFields p r bs i).rainCnt = r.rainCnt := rfl
    rw [recWords_w3, recWords_w3, hrain, lightningFields_distIdx_toNat, lightningFields_distKm_toNat, h.distIdx,
      h.distKm]
    omega
  w4 := rfl
  w5 := rfl

end Sys2Proof.Machine
end

section
/-! Frames that are accepted with a record that may carry lightning fields (44_decoders.md R206 to R212). -/

namespace Sys2Proof.Machine

theorem extractTower_noLightning (p : Params) (bs : List Byte) : NoLightning (extractTower p bs) :=
  ⟨rfl, rfl, rfl, rfl, (by decide : (presentTemp ||| presentHum).toNat < 2 ^ 6)⟩

theorem extractAtlas05_noLightning (p : Params) (bs : List Byte) : NoLightning (extractAtlas05 p bs) :=
  ⟨rfl, rfl, rfl, rfl, (by decide : (presentWspd ||| presentTemp ||| presentHum).toNat < 2 ^ 6)⟩

theorem extractAtlas06_noLightning (p : Params) (bs : List Byte) : NoLightning (extractAtlas06 p bs) :=
  ⟨rfl, rfl, rfl, rfl, (by decide : (presentWspd ||| presentWdir ||| presentRain).toNat < 2 ^ 6)⟩

theorem extractAtlas07_noLightning (p : Params) (bs : List Byte) : NoLightning (extractAtlas07 p bs) :=
  ⟨rfl, rfl, rfl, rfl, (by decide : (presentWspd ||| presentUvLux).toNat < 2 ^ 6)⟩

/-- A Lightning record has the fields of a Tower record and the lightning fields (44_decoders.md R206). -/
theorem extractLightning_addsLightning (p : Params) (bs : List Byte) :
    AddsLightning p bs 6 1 (recWords (extractTower p bs)) (recWords (extractLightning p bs)) := by
  obtain ⟨hstrikes, hrfi, hdistIdx, hdistKm, hpresent⟩ := extractTower_noLightning p bs
  obtain ⟨h1, h2, h3, h4, h5⟩ := lightningFields_addsLightning p
    (r := { extractTower p bs with fmt := (fmtRom .lightning).id, len := 9 }) bs 6
    ⟨hstrikes, hrfi, hdistIdx, hdistKm, hpresent⟩
  exact ⟨h1, h2, h3, h4, h5⟩

/-- Settles O43: the words of a Tower record with the lightning fields of bytes 6 and 7. -/
theorem lightningFrameIsAccepted : Obligations.LightningFrameIsAccepted := by
  intro bs s hshape hsum heven
  have hrow : TriesFormat s.params bs _ _ _ := .lightning
  obtain ⟨e, hentry, hkm⟩ := exists_distanceAt s.params bs 7
  have hadds := extractLightning_addsLightning s.params bs
  refine ⟨_, distanceAt s.params bs 7, hrow.exec_of_valid hsum ((parity_iff_evenParity bs 2 7).2 heven), by omega,
    by omega, ⟨e, hentry, hkm⟩, hrow.w0_toNat hshape (channelChar_lutA_toNat _ bs), ?_, ?_, ?_,
    hadds.w4.trans (extractTower_w4 _ _), hadds.w5.trans (extractTower_w5 _ _)⟩
  · rw [hadds.w1, extractTower_w1_toNat]
    simp only [Nat.reduceAdd]
    omega
  · rw [hadds.w2, extractTower_w2_toNat]
    simp only [Nat.reduceAdd]
    omega
  · rw [hadds.w3, extractTower_w3]
    simp

/-- The row of an Atlas message is accepted, without the lightning fields or with them (30_encoding.md R88). -/
theorem exists_atlas_accept {bs : List Byte} {s : State} {i plain ltng : Instr} {m mPlain mLtng : BitVec 6} {r : Rec}
    (hplain : TriesFormat s.params bs plain .atlas r)
    (hltng : TriesFormat s.params bs ltng .atlas (lightningFields s.params r bs 7)) (hr : NoLightning r)
    (hmPlain : ltngFlag mPlain.toNat = 0) (hmLtng : ltngFlag mLtng.toNat = 1)
    (hrow : (i, m) ∈ [(plain, mPlain), (ltng, mLtng)]) (hshape : packetShape 10 m bs = true)
    (hsum : checksum bs = true) (heven : EvenParity bs 2 8) :
    ∃ w : RecWords, exec i s = .next (accepted s w) ∧
      w.w0.toNat = headerNum 4 m.toNat (letterA (byteNum bs 0 / 64)) 10 bs ∧
      AddsLightning s.params bs 7 (ltngFlag m.toNat) (recWords r) w := by
  have hpar : formatParity .atlas bs = true := (parity_iff_evenParity bs 2 8).2 heven
  have hletter := channelChar_lutA_toNat s.params bs
  simp only [List.mem_cons, Prod.mk.injEq, List.not_mem_nil, or_false] at hrow
  rcases hrow with ⟨rfl, rfl⟩ | ⟨rfl, rfl⟩
  · refine ⟨_, hplain.exec_of_valid hsum hpar, hplain.w0_toNat hshape hletter, ?_⟩
    rw [hmPlain]
    exact .of_flag_zero _ _ _ _
  · refine ⟨_, hltng.exec_of_valid hsum hpar, hltng.w0_toNat hshape hletter, ?_⟩
    rw [hmLtng]
    exact lightningFields_addsLightning _ _ _ hr

/-- Settles O44, for both codes at once. -/
theorem atlasThFrameIsAccepted : Obligations.AtlasThFrameIsAccepted := by
  intro bs s i m hrow hshape hsum heven
  obtain ⟨w, hexec, hw0, hadds⟩ := exists_atlas_accept .atlas05 .atlas25 (extractAtlas05_noLightning _ bs)
    (by decide) (by decide) hrow hshape hsum heven
  refine ⟨w, _, hexec, exists_distanceAt s.params bs 8, hw0, ?_, ?_, ?_, hadds.w4.trans (extractAtlas05_w4 _ _),
    hadds.w5.trans (extractAtlas05_w5 _ _)⟩
  · rw [hadds.w1, extractAtlas05_w1_toNat]
  · rw [hadds.w2, extractAtlas05_w2_toNat]
  · rw [hadds.w3, extractAtlas05_w3]
    exact Nat.zero_add _

/-- Settles O45, for both codes at once. -/
theorem atlasWrFrameIsAccepted : Obligations.AtlasWrFrameIsAccepted := by
  intro bs s i m hrow hshape hsum heven
  obtain ⟨w, hexec, hw0, hadds⟩ := exists_atlas_accept .atlas06 .atlas26 (extractAtlas06_noLightning _ bs)
    (by decide) (by decide) hrow hshape hsum heven
  refine ⟨w, _, hexec, exists_distanceAt s.params bs 8, hw0, ?_, ?_, ?_, ?_, hadds.w5.trans (extractAtlas06_w5 _ _)⟩
  · rw [hadds.w1, extractAtlas06_w1_toNat]
  · rw [hadds.w2, extractAtlas06_w2_toNat]
  · rw [hadds.w3, extractAtlas06_w3_toNat]
  · rw [hadds.w4, extractAtlas06_w4_toNat]

/-- Settles O46, for both codes at once. -/
theorem atlasUlFrameIsAccepted : Obligations.AtlasUlFrameIsAccepted := by
  intro bs s i m hrow hshape hsum heven
  obtain ⟨w, hexec, hw0, hadds⟩ := exists_atlas_accept .atlas07 .atlas27 (extractAtlas07_noLightning _ bs)
    (by decide) (by decide) hrow hshape hsum heven
  refine ⟨w, _, hexec, exists_distanceAt s.params bs 8, hw0, ?_, ?_, ?_, ?_, ?_⟩
  · rw [hadds.w1, extractAtlas07_w1_toNat]
  · rw [hadds.w2, extractAtlas07_w2_toNat]
  · rw [hadds.w3, extractAtlas07_w3]
    exact Nat.zero_add _
  · rw [hadds.w4, extractAtlas07_w4_toNat]
  · rw [hadds.w5, extractAtlas07_w5_toNat]

end Sys2Proof.Machine
end

section
/-! The record port (45_host_interface.md R276). A step brings at most one record to it: `DECODE_STEP` accepts at most
one frame, and all else that a pulse does leaves the port and the latch alone. -/

namespace Sys2Proof.Machine

/-- No record on the way from `s` to `t`: the port and `RES_SEQ` are the same, and no event `FRAME_OK` is new. -/
structure NoRecord (s t : State) : Prop where
  recPort : t.recPort = s.recPort
  resSeq : t.resSeq = s.resSeq
  frameOk : .frameOk ∈ t.events ↔ .frameOk ∈ s.events

/-- No record, and the rest of what an accept writes is the same too (44_decoders.md R201). -/
structure SameLatch (s t : State) : Prop extends NoRecord s t where
  res : t.res = s.res
  resNew : t.resNew = s.resNew
  frameOkCount : t.frameOkCount = s.frameOkCount

/-- One record on the way from `s` to `t`: it stands in the latch and on the port, and its frame is counted
(44_decoders.md R201). -/
structure OneRecord (s t : State) : Prop where
  recPort : t.recPort = some t.res
  resSeq : t.resSeq = s.resSeq + 1
  frameOk : .frameOk ∈ t.events
  resNew : t.resNew = true
  frameOkCount : t.frameOkCount = s.frameOkCount + 1

/-- What a pulse may do to the port and the latch. -/
def AtMostOneRecord (s t : State) : Prop := SameLatch s t ∨ OneRecord s t

theorem SameLatch.refl (s : State) : SameLatch s s := ⟨⟨rfl, rfl, .rfl⟩, rfl, rfl, rfl⟩

/-- An event other than `FRAME_OK` is no record (60_exceptions.md R291). -/
theorem note_sameLatch (s : State) {e : Event} (he : e ≠ .frameOk) : SameLatch s (note s e) :=
  ⟨⟨rfl, rfl, by simp [he.symm]⟩, rfl, rfl, rfl⟩

theorem frameReset_sameLatch (s : State) : SameLatch s (frameReset s) := ⟨⟨rfl, rfl, .rfl⟩, rfl, rfl, rfl⟩

theorem storeBit_sameLatch (v : Bool) (s : State) : SameLatch s (storeBit v s) :=
  ⟨⟨rfl, rfl, .rfl⟩, rfl, rfl, rfl⟩

theorem countSync_sameLatch (s : State) : SameLatch s (countSync s) := ⟨⟨rfl, rfl, .rfl⟩, rfl, rfl, rfl⟩

theorem takeEntry_sameLatch (s : State) : SameLatch s (takeEntry s) := ⟨⟨rfl, rfl, .rfl⟩, rfl, rfl, rfl⟩

theorem resetSync_sameLatch (s : State) : SameLatch s (resetSync s) := by
  unfold resetSync
  split
  · exact ⟨⟨rfl, rfl, .rfl⟩, rfl, rfl, rfl⟩
  · exact ⟨⟨rfl, rfl, by simp⟩, rfl, rfl, rfl⟩

/-- What comes before, if it leaves the latch alone. -/
theorem AtMostOneRecord.after {s t u : State} (h : AtMostOneRecord t u) (hbefore : SameLatch s t) :
    AtMostOneRecord s u := by
  obtain ⟨⟨hport, hseq, hok⟩, hres, hnew, hcount⟩ := hbefore
  rcases h with ⟨⟨hport', hseq', hok'⟩, hres', hnew', hcount'⟩ | ⟨hport', hseq', hok', hnew', hcount'⟩
  · exact .inl ⟨⟨hport'.trans hport, hseq'.trans hseq, hok'.trans hok⟩, hres'.trans hres, hnew'.trans hnew,
      hcount'.trans hcount⟩
  · exact .inr ⟨hport', hseq ▸ hseq', hok', hnew', hcount ▸ hcount'⟩

/-- What comes after, if it leaves the latch alone. -/
theorem AtMostOneRecord.before {s t u : State} (h : AtMostOneRecord s t) (hafter : SameLatch t u) :
    AtMostOneRecord s u := by
  rcases h with hsame | ⟨hport, hseq, hok, hnew, hcount⟩
  · exact AtMostOneRecord.after (.inl hafter) hsame
  · obtain ⟨⟨hport', hseq', hok'⟩, hres', hnew', hcount'⟩ := hafter
    exact .inr ⟨by rw [hport', hport, hres'], hseq'.trans hseq, hok'.2 hok, hnew'.trans hnew, hcount'.trans hcount⟩

theorem validateAndAccept_atMostOneRecord (f : Format) (bs : List Byte) (r : Rec) (m : Mode) (s : State) :
    AtMostOneRecord s (validateAndAccept f bs r m s).2 := by
  have hsum : SameLatch s (countCsumFail s) := ⟨⟨rfl, rfl, by simp⟩, rfl, rfl, rfl⟩
  have hpar : SameLatch s (countParityFail s) := ⟨⟨rfl, rfl, by simp⟩, rfl, rfl, rfl⟩
  rcases validateAndAccept_cases f bs r m s with ⟨_, h⟩ | ⟨_, _, h⟩ | ⟨_, _, h⟩ <;> rw [h]
  · cases m with
    | count => exact .inl hsum
    | silent => exact .inl (.refl s)
  · cases m with
    | count => exact .inl hpar
    | silent => exact .inl (.refl s)
  · exact .inr ⟨rfl, rfl, by simp, rfl, rfl⟩

/-- `DECODE_STEP` accepts at most one frame: it tries the one row that the bytes fit, or none (44_decoders.md R201,
R244). -/
theorem decodeStep_atMostOneRecord (n : Nat) (m : Mode) (s : State) : AtMostOneRecord s (decodeStep n m s).2 := by
  cases hrow : decodeFrame (framePrefix s n) with
  | ok i =>
    obtain ⟨row, hfits, -⟩ := exists_fits_of_decodeFrame hrow
    obtain ⟨r, htry⟩ := tryRow_eq row.fmt (framePrefix s n) m s
    rw [decodeStep_of_fits m hfits, htry]
    exact validateAndAccept_atMostOneRecord _ _ r m s
  | error e =>
    cases m with
    | count =>
      rw [decodeStep_of_decodeFrame_error hrow]
      exact .inl (note_sameLatch s (by decide))
    | silent =>
      have hnone : acceptable (framePrefix s n) = false := by
        simp [acceptable, formatMatches_of_decodeFrame_error hrow]
      rw [decodeStep_silent hnone]
      exact .inl (.refl s)

theorem byteComplete_atMostOneRecord (n : Nat) (s : State) : AtMostOneRecord s (byteComplete n s) := by
  have hdecode := decodeStep_atMostOneRecord n .count s
  rcases byteComplete_cases n s with ⟨_, h⟩ | ⟨_, _, h⟩ | ⟨_, _, h⟩ <;> rw [h]
  · exact hdecode.before (frameReset_sameLatch _)
  · exact (hdecode.before (note_sameLatch _ (by decide))).before (frameReset_sameLatch _)
  · exact hdecode

theorem appendBit_atMostOneRecord (v : Bool) (s : State) : AtMostOneRecord s (appendBit v s) := by
  rcases appendBit_cases v s with ⟨_, h⟩ | ⟨_, h⟩ <;> rw [h]
  · exact .inl (storeBit_sameLatch v s)
  · exact (byteComplete_atMostOneRecord _ _).after (storeBit_sameLatch v s)

theorem abortFrame_atMostOneRecord (s : State) : AtMostOneRecord s (abortFrame s) := by
  have hhandover : AtMostOneRecord s
      (if minFmtBytes ≤ s.nbits.toNat / 8 then (decodeStep (s.nbits.toNat / 8) .silent s).2 else s) := by
    split
    · exact decodeStep_atMostOneRecord _ .silent s
    · exact .inl (.refl s)
  exact (hhandover.before (note_sameLatch _ (by decide))).before (frameReset_sameLatch _)

/-- A pulse brings at most one record to the port, in each outcome of `BAS_PULSE` (42_bit_assembler.md R170). -/
theorem basPulse_atMostOneRecord (p : Level) (d : Word) (s : State) : AtMostOneRecord s (basPulse p d s) := by
  rcases basPulse_cases p d s with ⟨_, _, h⟩ | ⟨v, _, _, _, _, h⟩ | ⟨_, _, _, h⟩ | ⟨_, _, h⟩ |
    ⟨v, _, _, _, h⟩ | ⟨_, _, _, h⟩ <;> rw [h]
  · exact .inl (countSync_sameLatch s)
  · exact appendBit_atMostOneRecord v s
  · exact .inl (resetSync_sameLatch s)
  · exact .inl (.refl s)
  · exact appendBit_atMostOneRecord v s
  · exact abortFrame_atMostOneRecord s

/-- The tests after the full test raise no event (60_exceptions.md R291). -/
theorem captureEdge_events (lvl : Bool) (s : State) : (captureEdge lvl s).events = s.events := by
  rcases captureEdge_cases lvl s with ⟨_, h⟩ | ⟨_, _, _, h⟩ | ⟨_, _, _, h⟩ | ⟨_, _, _, h⟩ | ⟨_, _, _, h⟩ <;>
    rw [h] <;> rfl

/-- The one event that an edge can raise is `RING_OVERFLOW` (60_exceptions.md R291). -/
theorem edgeStep_events (lvl : Bool) (s : State) :
    (edgeStep lvl s).events = s.events ∨ (edgeStep lvl s).events = s.events ++ [.ringOverflow] := by
  rcases edgeStep_cases lvl s with ⟨_, h⟩ | ⟨_, _, _, h⟩ | ⟨_, _, _, h⟩ | ⟨_, _, h⟩ <;> rw [h]
  · exact .inl rfl
  · exact .inl rfl
  · exact .inr rfl
  · exact .inl (captureEdge_events lvl _)

theorem edgeStep_sameLatch (lvl : Bool) (s : State) : SameLatch s (edgeStep lvl s) := by
  have hok : Event.frameOk ∈ (edgeStep lvl s).events ↔ Event.frameOk ∈ s.events := by
    rcases edgeStep_events lvl s with h | h <;> simp [h]
  refine ⟨⟨?_, ?_, hok⟩, ?_, ?_, ?_⟩ <;> rw [edgeStep_frame]

/-- What the operation `i` may do to the port and the latch: bring no record, the latch then the same or cleared by
`WR CTRL`, or bring one (45_host_interface.md R276, R270). -/
def RecordEffect (i : Instr) (s t : State) : Prop :=
  (NoRecord s t ∧ (t.res = s.res ∨ ∃ v, i = .wrCtrl v ∧ t.res = RecWords.zero)) ∨ OneRecord s t

theorem AtMostOneRecord.recordEffect {s t : State} (h : AtMostOneRecord s t) (i : Instr) : RecordEffect i s t :=
  h.imp_left fun hsame => ⟨hsame.toNoRecord, .inl hsame.res⟩

theorem Effect.recordEffect {i : Instr} {s t : State} (h : Effect i s t) (hreset : i ≠ .hwReset) :
    RecordEffect i s t := by
  cases h
  case hwReset => exact absurd rfl hreset
  case edge lvl => exact AtMostOneRecord.recordEffect (.inl (edgeStep_sameLatch lvl s)) _
  case consume => exact ((basPulse_atMostOneRecord _ _ _).after (takeEntry_sameLatch s)).recordEffect _
  case pulse p d _ _ => exact (basPulse_atMostOneRecord p d s).recordEffect _
  case packet f bs r _ => exact (validateAndAccept_atMostOneRecord f bs r .count s).recordEffect i
  case softReset v _ => exact .inl ⟨⟨rfl, rfl, .rfl⟩, .inr ⟨v, rfl, rfl⟩⟩
  all_goals exact .inl ⟨⟨rfl, rfl, .rfl⟩, .inl rfl⟩

/-- Settles O51: an operation begins with nothing on the port and no event, and brings no record or one. -/
theorem recordPortCarriesAcceptsOnly : Obligations.RecordPortCarriesAcceptsOnly := by
  intro s t w rest hs hreset hstep
  rcases step_cases hstep with ⟨hnil, _⟩ | ⟨w', rest', i, hs', hdecode, hexec⟩
  · rw [hnil] at hs
    cases hs
  · cases hs.symm.trans hs'
    have hi : i ≠ .hwReset := by
      rintro rfl
      exact hreset hdecode
    rcases (exec_effect hexec).recordEffect hi with
      ⟨⟨hport, hseq, hok⟩, hres⟩ | ⟨hport, hseq, hok, hnew, hcount⟩
    · refine .inl ⟨hport, fun hmem => List.not_mem_nil (hok.1 hmem), hseq, hres.imp_right ?_⟩
      rintro ⟨v, rfl, hzero⟩
      exact ⟨v, hdecode, hzero⟩
    · exact .inr ⟨hport, hok, hseq, hcount, hnew⟩

end Sys2Proof.Machine
end

section
/-! What is refused (45_host_interface.md R267): the six refused rows, `CONSUME` where it is not enabled, and the
stimulus words that are no operation. -/

namespace Sys2Proof.Machine

/-- The operation has no step (45_host_interface.md R267). -/
def Stops (i : Instr) (s : State) : Prop := ∃ r, exec i s = .refused r

theorem not_stops_of_next {i : Instr} {s t : State} (h : exec i s = .next t) : ¬ Stops i s := by
  rintro ⟨r, hr⟩
  cases h.symm.trans hr

/-- Settles O7: the arm of a refused row reads neither its operands nor the state. -/
theorem refusedRowsStop : Obligations.RefusedRowsStop :=
  fun _ _ _ _ _ _ => ⟨rfl, rfl, rfl, rfl, rfl, rfl⟩

theorem stops_consume_iff (s : State) : Stops .consume s ↔ consumeEnabled s = false := by
  unfold Stops
  rw [exec_consume]
  cases consumeEnabled s <;> simp

/-- The operations that have no step are the six refused rows, which stand first in the table, and `CONSUME` where
it is not enabled (45_host_interface.md R267). -/
theorem stops_iff (i : Instr) (s : State) :
    Stops i s ↔ rowNumber i ≤ 5 ∨ (i = .consume ∧ consumeEnabled s = false) := by
  cases i
  case refusedRdMisalignedBit0 | refusedRdMisalignedBit1 | refusedWrMisalignedBit0 | refusedWrMisalignedBit1 |
      refusedKind6to7 | refusedKind8to15 =>
    exact iff_of_true ⟨_, rfl⟩ (.inl (Nat.le_of_ble_eq_true rfl))
  case consume => simp [stops_consume_iff, rowNumber]
  case wrPulseIn v => exact iff_of_false (not_stops_of_next (exec_wrPulseIn v s)) (by simp [rowNumber])
  all_goals exact iff_of_false (not_stops_of_next rfl) (by simp [rowNumber])

/-- A row from 10 on, a host access, has a step (45_host_interface.md R260, R266). -/
theorem not_stops_of_rowNumber {i : Instr} (s : State) (h : 10 ≤ rowNumber i) : ¬ Stops i s := by
  rw [stops_iff]
  rintro (hrow | ⟨rfl, -⟩)
  · omega
  · simp [rowNumber] at h

theorem stops_consume_iff_not (s : State) :
    Stops .consume s ↔ ¬ (s.demEn = true ∧ s.srcSel = false ∧ s.rd ≠ s.wr) := by
  rw [stops_consume_iff, ← consumeEnabled_iff, Bool.not_eq_true]

theorem not_stops_hwReset (s : State) : ¬ Stops .hwReset s := not_stops_of_next rfl

/-- What the decoder answers for the stimulus is refused: no operation, or one that has no step. -/
def Refuses (answer : Except Reject Instr) (s : State) : Prop := ∀ i, answer = .ok i → Stops i s

theorem refuses_error (e : Reject) (s : State) : Refuses (.error e) s := by
  rintro i ⟨⟩

theorem refuses_ok_iff (i : Instr) (s : State) : Refuses (.ok i) s ↔ Stops i s :=
  ⟨fun h => h i rfl, by rintro h _ ⟨⟩; exact h⟩

/-- A test of the decoder that rejects the word. -/
theorem refuses_ite_error_iff {c : Prop} [Decidable c] {e : Reject} {other : Except Reject Instr} {s : State} :
    Refuses (if c then .error e else other) s ↔ c ∨ Refuses other s := by
  by_cases hc : c <;> simp [hc, refuses_error]

/-- A test of the decoder that selects an operation without a step. -/
theorem refuses_ite_ok_iff {c : Prop} [Decidable c] {i : Instr} {other : Except Reject Instr} {s : State}
    (h : Stops i s) : Refuses (if c then .ok i else other) s ↔ c ∨ Refuses other s := by
  by_cases hc : c <;> simp [hc, refuses_ok_iff, h]

/-- The step is refused exactly where the decoder's answer is. -/
theorem step_refused_iff {s : State} {w : StimWord} {rest : List StimWord} (hs : s.stim = w :: rest) :
    (∃ r, step s = .refused r) ↔ Refuses (decodeStimulus w) (beginStep s rest) := by
  cases hdecode : decodeStimulus w with
  | ok i =>
    obtain ⟨-, hstep⟩ := stepRunsDecodedOperation s w rest i hs hdecode
    rw [hstep, refuses_ok_iff]
    rfl
  | error e =>
    have hstep : step s = .refused (refusalOf e) := by
      unfold step
      rw [hs]
      simp only [decode, hdecode]
    exact iff_of_true ⟨_, hstep⟩ (refuses_error e _)

/-- `OFF` is no multiple of 4 where one of its two lowest bits is 1 (20_memory.md R62). -/
theorem toNat_mod_four_ne_zero_iff (o : BitVec 13) :
    o.toNat % 4 ≠ 0 ↔ o.getLsbD 0 = true ∨ o.getLsbD 1 = true := by
  have hlow : o.toNat % 4 = 0 ↔ o.extractLsb 1 0 = 0#2 := by
    rw [← BitVec.toNat_inj, toNat_extractLsb_eq]
    simp
  rw [Ne, hlow, aligned_iff, not_and_or, Bool.not_eq_false, Bool.not_eq_false]

/-- The kinds that have no decoder of their own are 6 to 15 (30_encoding.md R101). -/
theorem six_le_of_reserved : ∀ k : BitVec 4, (k = 6 ∨ k = 7) ∨ k.getLsbD 3 = true → 6 ≤ k.toNat := by decide

/-- `DATA[31:1]` of an `EDGE` word is 0 where `DATA` is 0 or 1 (30_encoding.md R101). -/
theorem extractLsb_31_1_ne_zero_iff (d : Word) : d.extractLsb 31 1 ≠ 0 ↔ 2 ≤ d.toNat := by
  have hlt := d.isLt
  rw [Ne, ← BitVec.toNat_inj, toNat_extractLsb_eq]
  change ¬ d.toNat / 2 ^ 1 % 2 ^ 31 = 0 ↔ _
  omega

section Kinds

variable (w : StimWord) (s : State)

theorem refuses_decodeTick_iff : Refuses (decodeTick w) s ↔ stimZero w ≠ 0 ∨ stimOff w ≠ 0 := by
  simp only [decodeTick, refuses_ite_error_iff, refuses_ok_iff, not_stops_of_next (exec_tick _ s), or_false]

theorem refuses_decodeEdge_iff :
    Refuses (decodeEdge w) s ↔ stimZero w ≠ 0 ∨ stimOff w ≠ 0 ∨ 2 ≤ (stimData w).toNat := by
  simp only [decodeEdge, refuses_ite_error_iff, refuses_ok_iff, not_stops_of_next (exec_edge _ s), or_false,
    extractLsb_31_1_ne_zero_iff]

theorem refuses_decodePlain_iff (i : Instr) :
    Refuses (decodePlain i w) s ↔ stimZero w ≠ 0 ∨ stimOff w ≠ 0 ∨ stimData w ≠ 0 ∨ Stops i s := by
  simp only [decodePlain, refuses_ite_error_iff, refuses_ok_iff]

theorem refuses_decodeRead_iff : Refuses (decodeRead w) s ↔
    (stimOff w).toNat % 4 ≠ 0 ∨ stimZero w ≠ 0 ∨ stimData w ≠ 0 := by
  have hrow : ¬ Stops (readRow (stimOff w)) s := not_stops_of_rowNumber s (by rw [rowNumber_readRow]; omega)
  rw [decodeRead, refuses_ite_ok_iff ⟨_, rfl⟩, refuses_ite_ok_iff ⟨_, rfl⟩, toNat_mod_four_ne_zero_iff]
  simp only [refuses_ite_error_iff, refuses_ok_iff, hrow, or_false, or_assoc]

theorem refuses_decodeWrite_iff : Refuses (decodeWrite w) s ↔
    (stimOff w).toNat % 4 ≠ 0 ∨ stimZero w ≠ 0 := by
  have hrow : ¬ Stops (writeRow (stimOff w) (stimData w)) s :=
    not_stops_of_rowNumber s (by rw [rowNumber_writeRow]; omega)
  rw [decodeWrite, refuses_ite_ok_iff ⟨_, rfl⟩, refuses_ite_ok_iff ⟨_, rfl⟩, toNat_mod_four_ne_zero_iff]
  simp only [refuses_ite_error_iff, refuses_ok_iff, hrow, or_false, or_assoc]

end Kinds

/-- Settles O2: the tests of the decoder that each `KIND` selects, and the rows that have no step. -/
theorem stepRefusesExactlyTheseStimuli : Obligations.StepRefusesExactlyTheseStimuli := by
  intro s w rest hs
  refine ⟨?_, step_next_or_refused s⟩
  rw [step_refused_iff hs]
  rcases kind_cases (stimKind w) with hk | hk | hk | hk | hk | hk | hk | hk
  · rw [decodeStimulus_tick hk, refuses_decodeTick_iff]
    simp [hk]
  · rw [decodeStimulus_edge hk, refuses_decodeEdge_iff]
    simp [hk]
  · rw [decodeStimulus_consume hk, refuses_decodePlain_iff, stops_consume_iff_not]
    simp [hk]
  · rw [decodeStimulus_read hk, refuses_decodeRead_iff]
    simp [hk]
  · rw [decodeStimulus_write hk, refuses_decodeWrite_iff]
    simp [hk]
  · rw [decodeStimulus_hwReset hk, refuses_decodePlain_iff]
    simp [hk, not_stops_hwReset]
  · rw [decodeStimulus_kind6to7 hk]
    exact iff_of_true ((refuses_ok_iff _ _).2 ⟨_, rfl⟩) (.inl (six_le_of_reserved _ (.inl hk)))
  · rw [decodeStimulus_kind8to15 hk]
    exact iff_of_true ((refuses_ok_iff _ _).2 ⟨_, rfl⟩) (.inl (six_le_of_reserved _ (.inr hk)))

end Sys2Proof.Machine
end

section
/-! The words that the host reads return (45_host_interface.md R260, 10_state.md R42). A packed word is the sum of its
fields, each times the weight of its lowest bit. -/

namespace Sys2Proof.Machine

/-- Settles O8: each operation is the reply of its word, which stands in the state as it is. -/
theorem plainReadsReturnTheirState : Obligations.PlainReadsReturnTheirState := by
  intro s i off
  exact ⟨rfl, rfl, rfl, rfl, rfl, rfl, rfl, rfl, rfl, rfl, rfl, rfl, rfl, rfl, rfl, rfl, rfl⟩

/-- The CTRL word as a number (10_state.md R38). -/
theorem ctrlWord_toNat (s : State) : (ctrlWord s).toNat =
    s.capEn.toNat + 2 * s.demEn.toNat + 4 * s.srcSel.toNat + 8 * s.ieRes.toNat + 16 * s.ieOvf.toNat := by
  unfold ctrlWord
  simp only [toNat_append_add, BitVec.toNat_ofBool, BitVec.toNat_ofNat]
  omega

/-- The RING_PTR word as a number (10_state.md R42). -/
theorem ringPtrWord_toNat (s : State) : (ringPtrWord s).toNat = s.wr.toNat + 2 ^ 16 * s.rd.toNat := by
  unfold ringPtrWord
  simp only [toNat_append_add, BitVec.toNat_ofNat]
  omega

/-- The DEMOD word as a number (10_state.md R42). -/
theorem demodWord_toNat (s : State) : (demodWord s).toNat = s.syncCnt.toNat + 2 ^ 8 * s.nbits.toNat := by
  unfold demodWord
  simp only [toNat_append_add, BitVec.toNat_ofNat]
  omega

theorem timingWord_toNat (v : BitVec 16) : (timingWord v).toNat = v.toNat := toNat_zero_append v

theorem syncMinWord_toNat (s : State) : (syncMinWord s).toNat = s.syncMin.toNat := toNat_zero_append s.syncMin

/-- A byte of the frame as a number. -/
theorem frameByte_toNat (s : State) (i : Nat) : (frameByte s i).toNat = byteNum s.b.toList i := by
  unfold frameByte byteNum
  rw [← vector_getD_eq_toList_getD]

/-- Four bytes side by side as a number: the last has weight 1 (10_state.md R47). -/
theorem frameBytes_toNat (s : State) (i j k l : Nat) :
    (frameByte s i ++ frameByte s j ++ frameByte s k ++ frameByte s l).toNat =
      byteNum s.b.toList l + 2 ^ 8 * byteNum s.b.toList k + 2 ^ 16 * byteNum s.b.toList j +
        2 ^ 24 * byteNum s.b.toList i := by
  simp only [toNat_append_add, frameByte_toNat]
  omega

theorem frame2Word_toNat (s : State) :
    (frame2Word s).toNat = byteNum s.b.toList 8 + 2 ^ 8 * byteNum s.b.toList 9 := by
  unfold frame2Word
  simp only [toNat_append_add, BitVec.toNat_ofNat, frameByte_toNat]
  omega

/-- Settles O9: each read is the reply of its word, and the word as a number is said above. -/
theorem packedReadsAsNumbers : Obligations.PackedReadsAsNumbers := by
  intro s
  exact ⟨ctrlWord s, ringPtrWord s, timingWord s.filterUs, timingWord s.syncUs, timingWord s.zeroUs,
    timingWord s.oneUs, timingWord s.tolUs, syncMinWord s, demodWord s, frame0Word s, frame1Word s, frame2Word s,
    rfl, ctrlWord_toNat s, rfl, ringPtrWord_toNat s, rfl, timingWord_toNat _, rfl, timingWord_toNat _,
    rfl, timingWord_toNat _, rfl, timingWord_toNat _, rfl, timingWord_toNat _, rfl, syncMinWord_toNat s,
    rfl, demodWord_toNat s, rfl, frameBytes_toNat s 3 2 1 0, rfl, frameBytes_toNat s 7 6 5 4, rfl,
    frame2Word_toNat s⟩

end Sys2Proof.Machine
end

section
/-! The host writes (45_host_interface.md R261 to R266): an equation for each group of registers, and the words that
encode them. -/

namespace Sys2Proof.Machine

theorem exec_wrCtrl (v : Word) (s : State) : exec (.wrCtrl v) s =
    .next (if v.getLsbD 31 then softReset (setCtrl s v) else setCtrl s v) := rfl

/-- Settles O12: the soft reset writes all that the hardware reset writes but the state named in the statement. -/
theorem ctrlWriteSetsEnablesAndSoftResets : Obligations.CtrlWriteSetsEnablesAndSoftResets := by
  intro v s
  rw [exec_wrCtrl]
  refine ⟨fun hplain => ?_, fun hreset => ?_⟩
  · rw [hplain]
    rfl
  · rw [hreset]
    rfl

/-- An edge does not set `OVF` while an episode goes on, and never clears it (40_edge_capture.md R135). -/
theorem edgeStep_ovf_of_active (lvl : Bool) {s : State} (hactive : s.ovfActive = true) :
    (edgeStep lvl s).ovf = s.ovf := by
  rcases edgeStep_overflow_cases lvl s with hsame | ⟨_, _, hidle, _⟩ | ⟨_, _, hends⟩
  · exact hsame.ovf
  · rw [hactive] at hidle
    cases hidle
  · exact hends.ovf

/-- Settles O13. -/
theorem statusWriteClearsOnlyWrittenFlags : Obligations.StatusWriteClearsOnlyWrittenFlags := by
  refine ⟨fun v => decode_write _ v rfl rfl, fun _ _ => rfl, fun lvl s t hactive hovf he => ?_,
    fun s hovf hnew => ?_⟩
  · cases he
    exact (edgeStep_ovf_of_active lvl hactive).trans hovf
  · have hstatus : exec (.wrStatus 0x2) s = .next { s with ovf := s.ovf && true, resNew := s.resNew && false } := rfl
    rw [hstatus, Bool.and_true, Bool.and_false]

theorem timingField_toNat (v : Word) : (timingField v).toNat = v.toNat % 2 ^ 16 := by
  rw [timingField, toNat_extractLsb_eq]
  simp

/-- Settles O14: every register takes the low bits of `v`, and the edge that follows is judged by the new
`FILTER_US`. -/
theorem timingWritesTruncate : Obligations.TimingWritesTruncate := by
  refine ⟨fun v => ⟨decode_write _ v rfl rfl, decode_write _ v rfl rfl, decode_write _ v rfl rfl,
    decode_write _ v rfl rfl, decode_write _ v rfl rfl, decode_write _ v rfl rfl⟩, fun v s => ?_, fun _ => rfl⟩
  refine ⟨timingField v, v.extractLsb 7 0, timingField_toNat v, ?_, rfl, rfl, rfl, rfl, rfl, rfl, fun c d => ?_,
    fun lvl hcap hroom hshort => ?_⟩
  · rw [toNat_extractLsb_eq]
    simp
  · rw [← timingField_toNat]
    rfl
  · rw [← timingField_toNat] at hshort
    exact congrArg _ (edgeStep_of_short (s := { s with filterUs := timingField v }) hcap hroom hshort)

/-- An edge that finds the ring full outside an episode starts one (40_edge_capture.md R135). -/
theorem exec_edge_startsEpisode (lvl : Bool) {s : State} (hcap : s.capEn = true) (hfull : ringFull s = true)
    (hidle : s.ovfActive = false) : exec (.edge lvl) s = .next (startEpisode s) := by
  rw [exec_edge, edgeStep_of_full lvl hcap ((ringFull_iff s).1 hfull), hidle]
  rfl

/-- Settles O15: the edge of the last part starts an episode, which adds 1 to the cleared counter. -/
theorem counterWritesClear : Obligations.CounterWritesClear := by
  refine ⟨fun v => ⟨decode_write _ v rfl rfl, decode_write _ v rfl rfl, decode_write _ v rfl rfl,
    decode_write _ v rfl rfl⟩, fun v s => ⟨rfl, rfl, rfl, rfl⟩, fun v s t lvl he hcap hfull hidle => ?_⟩
  cases he
  exact ⟨_, exec_edge_startsEpisode lvl (s := { s with ovfCount := 0 }) hcap hfull hidle, rfl⟩

/-- The offset of `RING_DATA[i]` (10_state.md R42). -/
theorem ringDataOffset_eq (i : BitVec 10) : 0x1000 + 4 * i.setWidth 13 = 1#1 ++ i ++ 0#2 := by
  have hlt := i.isLt
  change 0x1000#13 + 4#13 * i.setWidth 13 = _
  apply BitVec.eq_of_toNat_eq
  simp only [toNat_append_add, BitVec.toNat_add, BitVec.toNat_mul, BitVec.toNat_setWidth, BitVec.toNat_ofNat]
  omega

/-- Settles O16: each arm is `ignoreWrite`, and each word decodes by its offset. -/
theorem readOnlyAndReservedWritesIgnored : Obligations.ReadOnlyAndReservedWritesIgnored := by
  refine ⟨fun v i off s => ⟨rfl, rfl, rfl, rfl, rfl, rfl, rfl, rfl, rfl, rfl, rfl, rfl, rfl, rfl, rfl, rfl, rfl⟩,
    fun v => ?_, fun i v => ?_, fun off v hoff => (decode_reservedOffset hoff v).2⟩
  · refine ⟨?_, ?_, ?_, ?_, ?_, ?_, ?_, ?_, ?_, ?_, ?_, ?_, ?_, ?_, ?_⟩ <;> exact decode_write _ v rfl rfl
  · rw [ringDataOffset_eq]
    exact (decode_ringOffset i v).2

end Sys2Proof.Machine
end

section
/-! The events of an operation (60_exceptions.md R291, R292): which lists of events it may add, from what a try of
the demultiplexer adds, and a pulse after it. -/

namespace Sys2Proof.Machine

/-- On the way from `s` to `t` one of the listed event lists is added. -/
def AddsEvents (choices : List (List Event)) (s t : State) : Prop := ∃ es ∈ choices, t.events = s.events ++ es

/-- What a packet row may add: a checksum failure, a parity failure or an accept (44_decoders.md R201). -/
def packetEvents : List (List Event) := [[.csumFail], [.parityFail], [.frameOk]]

/-- What a pulse may add: nothing, an abort or a sync reset, a failed try that may end in the tenth byte, or an
accept (42_bit_assembler.md R170 to R180). -/
def pulseEvents : List (List Event) := [[], [.timingMiss], [.noMatch], [.noMatch, .maxReset], [.csumFail],
  [.csumFail, .maxReset], [.parityFail], [.parityFail, .maxReset], [.frameOk]]

/-- What an edge may add: nothing, or the start of an overflow episode (40_edge_capture.md R135). -/
def edgeEvents : List (List Event) := [[], [.ringOverflow]]

/-- What an operation other than `HW_RESET` may add, by its kind (60_exceptions.md R292). -/
def eventChoices : Instr → List (List Event)
  | .edge _ => edgeEvents
  | .consume => pulseEvents
  | .wrPulseIn _ => pulseEvents
  | i => if 70 ≤ rowNumber i then packetEvents else [[]]

theorem nil_mem_eventChoices {i : Instr} (h : rowNumber i < 70) : [] ∈ eventChoices i := by
  unfold eventChoices
  split
  · decide
  · decide
  · decide
  · rw [if_neg (by omega)]
    exact List.mem_singleton_self _

theorem eventChoices_packet {i : Instr} (h : 70 ≤ rowNumber i) : eventChoices i = packetEvents := by
  unfold eventChoices
  split
  case h_4 => exact if_pos h
  all_goals simp [rowNumber] at h

theorem eventChoices_other {i : Instr} (hedge : ∀ lvl, i ≠ .edge lvl) (hconsume : i ≠ .consume)
    (hpulse : ∀ v, i ≠ .wrPulseIn v) (hrow : rowNumber i < 70) : eventChoices i = [[]] := by
  unfold eventChoices
  split
  · exact absurd rfl (hedge _)
  · exact absurd rfl hconsume
  · exact absurd rfl (hpulse _)
  · exact if_neg (by omega)

/-- A validated frame adds one event: a failure where it is not accepted, `FRAME_OK` where it is
(44_decoders.md R201). -/
theorem validateAndAccept_events (f : Format) (bs : List Byte) (r : Rec) (s : State) :
    ((validateAndAccept f bs r .count s).1 = false ∧ ∃ e ∈ [Event.csumFail, .parityFail],
      (validateAndAccept f bs r .count s).2.events = s.events ++ [e]) ∨
    ((validateAndAccept f bs r .count s).1 = true ∧
      (validateAndAccept f bs r .count s).2.events = s.events ++ [.frameOk]) := by
  rcases validateAndAccept_cases f bs r .count s with ⟨_, h⟩ | ⟨_, _, h⟩ | ⟨_, _, h⟩ <;> rw [h]
  · exact .inl ⟨rfl, .csumFail, by decide, rfl⟩
  · exact .inl ⟨rfl, .parityFail, by decide, rfl⟩
  · exact .inr ⟨rfl, rfl⟩

theorem validateAndAccept_addsEvents (f : Format) (bs : List Byte) (r : Rec) (s : State) :
    AddsEvents packetEvents s (validateAndAccept f bs r .count s).2 := by
  rcases validateAndAccept_events f bs r s with ⟨_, e, he, h⟩ | ⟨_, h⟩
  · have hmem : ∀ e ∈ [Event.csumFail, .parityFail], [e] ∈ packetEvents := by decide
    exact ⟨[e], hmem e he, h⟩
  · exact ⟨[.frameOk], by decide, h⟩

/-- `DECODE_STEP` at a byte boundary adds one event: `FRAME_OK` where some decoder accepts, else a failure of the
one row that the bytes fit, or `NO_MATCH` (44_decoders.md R201, R244). -/
theorem decodeStep_events (n : Nat) (s : State) :
    (acceptable (framePrefix s n) = true ∧ (decodeStep n .count s).2.events = s.events ++ [.frameOk]) ∨
    (acceptable (framePrefix s n) = false ∧ ∃ e ∈ [Event.noMatch, .csumFail, .parityFail],
      (decodeStep n .count s).2.events = s.events ++ [e]) := by
  rw [← decodeStep_fst n .count s]
  cases hrow : decodeFrame (framePrefix s n) with
  | ok i =>
    obtain ⟨row, hfits, -⟩ := exists_fits_of_decodeFrame hrow
    obtain ⟨r, htry⟩ := tryRow_eq row.fmt (framePrefix s n) .count s
    rw [decodeStep_of_fits .count hfits, htry]
    rcases validateAndAccept_events row.fmt (framePrefix s n) r s with ⟨hfails, e, he, h⟩ | haccepts
    · exact .inr ⟨hfails, e, List.mem_cons_of_mem _ he, h⟩
    · exact .inl haccepts
  | error _ =>
    rw [decodeStep_of_decodeFrame_error hrow]
    exact .inr ⟨rfl, .noMatch, by decide, rfl⟩

theorem byteComplete_addsEvents (n : Nat) (s : State) : AddsEvents pulseEvents s (byteComplete n s) := by
  have hfailure : ∀ e ∈ [Event.noMatch, .csumFail, .parityFail],
      [e] ∈ pulseEvents ∧ [e, .maxReset] ∈ pulseEvents := by decide
  rcases decodeStep_events n s with ⟨haccept, hok⟩ | ⟨hnone, e, he, hevents⟩
  · rcases byteComplete_cases n s with ⟨_, h⟩ | ⟨hnone, _⟩ | ⟨hnone, _⟩
    · exact ⟨[.frameOk], by decide, by rw [h]; exact hok⟩
    all_goals cases haccept.symm.trans hnone
  · obtain ⟨hone, htwo⟩ := hfailure e he
    rcases byteComplete_cases n s with ⟨haccept, _⟩ | ⟨_, _, h⟩ | ⟨_, _, h⟩
    · cases haccept.symm.trans hnone
    · exact ⟨[e, .maxReset], htwo, by simp [h, hevents]⟩
    · exact ⟨[e], hone, by rw [h, hevents]⟩

theorem appendBit_addsEvents (v : Bool) (s : State) : AddsEvents pulseEvents s (appendBit v s) := by
  rcases appendBit_cases v s with ⟨_, h⟩ | ⟨_, h⟩ <;> rw [h]
  · exact ⟨[], by decide, by simp⟩
  · exact byteComplete_addsEvents _ (storeBit v s)

theorem resetSync_addsEvents (s : State) : AddsEvents pulseEvents s (resetSync s) := by
  unfold resetSync
  split
  · exact ⟨[], by decide, (List.append_nil _).symm⟩
  · exact ⟨[.timingMiss], by decide, rfl⟩

/-- An abort adds `TIMING_MISS` only: the handover was refused at its own byte boundary (42_bit_assembler.md R181). -/
theorem FrameInv.abortFrame_events {s : State} (h : FrameInv s) :
    (abortFrame s).events = s.events ++ [.timingMiss] := by
  rw [abortFrame, decodeStep_silent (h.noneAcceptable _ le_rfl), ite_self]
  rfl

/-- A pulse adds one of the lists, in each outcome of `BAS_PULSE` (42_bit_assembler.md R170). -/
theorem FrameInv.basPulse_addsEvents {s : State} (hinv : FrameInv s) (p : Level) (d : Word) :
    AddsEvents pulseEvents s (Machine.basPulse p d s) := by
  have hnothing : s.events = s.events ++ [] := (List.append_nil _).symm
  rcases basPulse_cases p d s with ⟨_, _, h⟩ | ⟨v, _, _, _, _, h⟩ | ⟨_, _, _, h⟩ | ⟨_, _, h⟩ |
    ⟨v, _, _, _, h⟩ | ⟨_, _, _, h⟩ <;> rw [h]
  · exact ⟨[], by decide, hnothing⟩
  · exact appendBit_addsEvents v s
  · exact resetSync_addsEvents s
  · exact ⟨[], by decide, hnothing⟩
  · exact appendBit_addsEvents v s
  · exact ⟨[.timingMiss], by decide, hinv.abortFrame_events⟩

theorem edgeStep_addsEvents (lvl : Bool) (s : State) : AddsEvents edgeEvents s (edgeStep lvl s) := by
  rcases edgeStep_events lvl s with h | h
  · exact ⟨[], by decide, h.trans (List.append_nil _).symm⟩
  · exact ⟨[.ringOverflow], by decide, h⟩

theorem Effect.addsEvents {i : Instr} {s t : State} (h : Effect i s t) (hinv : FrameInv s) (hreset : i ≠ .hwReset) :
    AddsEvents (eventChoices i) s t := by
  have hquiet (hrow : rowNumber i < 70) (hevents : t.events = s.events) : AddsEvents (eventChoices i) s t :=
    ⟨[], nil_mem_eventChoices hrow, hevents.trans (List.append_nil _).symm⟩
  cases h
  case hwReset => exact absurd rfl hreset
  case edge lvl => exact edgeStep_addsEvents lvl s
  case consume =>
    have htaken : FrameInv (takeEntry s) := hinv.of_sameFrame ⟨rfl, rfl, rfl⟩
    exact htaken.basPulse_addsEvents _ _
  case pulse p d _ _ => exact hinv.basPulse_addsEvents p d
  case packet f bs r hrow =>
    rw [eventChoices_packet hrow]
    exact validateAndAccept_addsEvents f bs r s
  case read hrow => exact hquiet (by omega) rfl
  case ignored hrow => exact hquiet (by omega) rfl
  all_goals exact hquiet (by simp [rowNumber]) rfl

/-- Settles O57, by the kind of the operation. -/
theorem eventsWithinOneStep : Obligations.EventsWithinOneStep := by
  intro i s t hinv hexec hreset
  obtain ⟨-, hframe⟩ := (machineInv_iff s).1 hinv
  obtain ⟨es, hmem, hevents⟩ := (exec_effect hexec).addsEvents hframe hreset
  refine ⟨es, hevents, ?_, ?_, fun hpacket => ?_, fun hedge hconsume hpulse hrow => ?_⟩
  · rintro ⟨lvl, rfl⟩
    exact hmem
  · rintro (rfl | ⟨v, rfl⟩)
    · exact hmem
    · exact hmem
  · rw [eventChoices_packet hpacket] at hmem
    exact hmem
  · rw [eventChoices_other hedge hconsume hpulse hrow] at hmem
    exact List.mem_singleton.1 hmem

end Sys2Proof.Machine
end

section
/-! The interrupt (60_exceptions.md R294): a level over two flags and their enables. Only `WR CTRL` turns an enable on,
so what else raises the level sets a flag. -/

namespace Sys2Proof.Machine

theorem irq_iff (s : State) :
    irq s = true ↔ (s.ieRes = true ∧ s.resNew = true) ∨ (s.ieOvf = true ∧ s.ovf = true) := by
  simp only [irq, Bool.or_eq_true, Bool.and_eq_true]

theorem irq_of_flags_clear {s : State} (hres : s.resNew = false) (hovf : s.ovf = false) : irq s = false := by
  simp [irq, hres, hovf]

/-- No interrupt enable is on in `t` that is off in `s` (10_state.md R38). -/
structure NoNewEnable (s t : State) : Prop where
  ieRes : t.ieRes = true → s.ieRes = true
  ieOvf : t.ieOvf = true → s.ieOvf = true

theorem DemOnly.noNewEnable {s t : State} (h : DemOnly s t) : NoNewEnable s t := by
  unfold DemOnly at h
  constructor <;> rw [h] <;> exact id

theorem edgeStep_noNewEnable (lvl : Bool) (s : State) : NoNewEnable s (edgeStep lvl s) := by
  constructor <;> rw [edgeStep_frame] <;> exact id

theorem hardwareReset_noNewEnable (s : State) : NoNewEnable s (hardwareReset s) :=
  ⟨nofun, nofun⟩

/-- `WR CTRL` is the one operation that may turn an enable on (45_host_interface.md R261). -/
theorem Effect.enable_cases {i : Instr} {s t : State} (h : Effect i s t) :
    (∃ v, i = .wrCtrl v) ∨ NoNewEnable s t := by
  cases h
  case ctrl v _ => exact .inl ⟨v, rfl⟩
  case softReset v _ => exact .inl ⟨v, rfl⟩
  case hwReset => exact .inr (hardwareReset_noNewEnable s)
  case edge lvl => exact .inr (edgeStep_noNewEnable lvl s)
  case consume =>
    obtain ⟨hres, hovf⟩ := (basPulse_demOnly (endedLevel (nextSlot s s.rd)) (consumedTs s - s.prevTs)
      (takeEntry s)).noNewEnable
    exact .inr ⟨hres, hovf⟩
  case pulse p d _ _ => exact .inr (basPulse_demOnly p d s).noNewEnable
  case packet f bs r _ => exact .inr (validateAndAccept_decodeOnly f bs r .count s).demOnly.noNewEnable
  all_goals exact .inr ⟨id, id⟩

/-- With no new enable, the level rises only with a flag. -/
theorem NoNewEnable.flag_of_irq_rises {s t : State} (h : NoNewEnable s t) (hlow : irq s = false)
    (hhigh : irq t = true) : (s.resNew = false ∧ t.resNew = true) ∨ (s.ovf = false ∧ t.ovf = true) := by
  rw [← Bool.not_eq_true, irq_iff, not_or] at hlow
  obtain ⟨hresLow, hovfLow⟩ := hlow
  rcases (irq_iff t).1 hhigh with ⟨henable, hflag⟩ | ⟨henable, hflag⟩
  · exact .inl ⟨Bool.eq_false_iff.2 fun hset => hresLow ⟨h.ieRes henable, hset⟩, hflag⟩
  · exact .inr ⟨Bool.eq_false_iff.2 fun hset => hovfLow ⟨h.ieOvf henable, hset⟩, hflag⟩

/-- Settles O58: a rise that is not `WR CTRL` comes with a flag, and the two clearing operations leave both flags 0. -/
theorem interruptFollowsTheFlags : Obligations.InterruptFollowsTheFlags := by
  refine ⟨irq_iff, fun i s t hexec hlow hhigh => ?_, fun s t hexec => ?_, fun v s t hbit hexec => ?_⟩
  · rcases (exec_effect hexec).enable_cases with hctrl | hsame
    · exact .inr (.inr hctrl)
    · exact (hsame.flag_of_irq_rises hlow hhigh).imp_right .inl
  · cases hexec
    exact irq_of_flags_clear (Bool.and_false _) (Bool.and_false _)
  · rw [exec_wrCtrl, hbit] at hexec
    cases hexec
    exact irq_of_flags_clear rfl rfl

end Sys2Proof.Machine
end

section
/-! The hardware reset leaves the storage empty, so the invariant holds there (70_reset_and_hazards.md R310,
R311). -/

namespace Sys2Proof.Machine

/-- An initial state has nothing stored, whatever its parameters and its stimuli (70_reset_and_hazards.md R311). -/
theorem Initial.storageEmpty {s : State} (h : Initial s) : StorageEmpty s := by
  obtain ⟨p, ws, rfl⟩ := h
  exact ⟨rfl, rfl, rfl, rfl, rfl⟩

theorem initial_resetWith (p : Params) : Initial (State.resetWith p) := ⟨p, [], rfl⟩

theorem hardwareReset_initial (s : State) : Initial (hardwareReset s) := ⟨s.params, s.stim, rfl⟩

/-- Settles O49: empty storage satisfies the invariant. -/
theorem invariantHoldsAtReset : Obligations.InvariantHoldsAtReset :=
  ⟨fun _ h => h.storageEmpty.machineInv, (initial_resetWith _).storageEmpty.machineInv⟩

end Sys2Proof.Machine
end

section
/-! The reset table (70_reset_and_hazards.md R311): the derived values after a reset, and the table itself. -/

namespace Sys2Proof.Machine

theorem StorageEmpty.slot_eq_zero {t : State} (h : StorageEmpty t) (i : Nat) : slot t i = 0 := by
  unfold slot
  rw [h.ring]
  rfl

theorem StorageEmpty.byte_eq_zero {t : State} (h : StorageEmpty t) {i : Nat} (hi : i < 10) :
    t.b[i]? = some 0 := by
  rw [h.b, Vector.getElem?_replicate, if_pos hi]

theorem StorageEmpty.ringEmpty {t : State} (h : StorageEmpty t) : ringEmpty t = true := by
  rw [ringEmpty_iff, h.rd, h.wr]

/-- The slot after the cursors is a different one, as there are at least two (10_state.md R26). -/
theorem StorageEmpty.not_ringFull {t : State} (h : StorageEmpty t) : ringFull t = false := by
  have htwo := two_le_ringSize t.params
  rw [ringFull_eq_false_iff, h.rd, h.wr]
  simp [Nat.mod_eq_of_lt htwo]

/-- The reset bands of half-width 90 around 600, 200 and 400 do not meet (10_state.md R40). -/
theorem cfgOverlap_resetWith (p : Params) : cfgOverlap (State.resetWith p) = false := by
  simp [cfgOverlap, bandsMeet, bandLo, bandHi, State.resetWith]

theorem cfgOverlap_hardwareReset (s : State) : cfgOverlap (hardwareReset s) = false :=
  (cfgOverlap_congr rfl rfl rfl rfl).trans (cfgOverlap_resetWith s.params)

/-- Of the fields of STATUS only `RING_EMPTY`, bit 7, is 1 (10_state.md R43). -/
theorem statusWord_hardwareReset (s : State) : statusWord (hardwareReset s) = 0x80 := by
  have hstorage := (hardwareReset_initial s).storageEmpty
  have hfsm : fsmCode (hardwareReset s) = 0 := fsmCode_awaiting rfl rfl
  apply BitVec.eq_of_toNat_eq
  rw [statusWord_toNat, hstorage.ringEmpty, hstorage.not_ringFull, cfgOverlap_hardwareReset, hfsm]
  rfl

theorem exec_hwReset (s : State) : exec .hwReset s = .next (hardwareReset s) := rfl

theorem exec_rdStatus (s : State) : exec .rdStatus s = .next { s with rdata := some (statusWord s) } := rfl

/-- Settles O23: the stored values stand in `State.resetWith`; the ring, the frame and the STATUS word are read
through the lemmas above. -/
theorem hardwareResetTable : Obligations.HardwareResetTable := by
  refine ⟨fun s => ?_, State.reset, rfl⟩
  have hstorage := (hardwareReset_initial s).storageEmpty
  have hstatus : exec .rdStatus (hardwareReset s) = .next { hardwareReset s with rdata := some 0x80 } := by
    rw [exec_rdStatus, statusWord_hardwareReset]
  have hirq : irq (hardwareReset s) = false := irq_of_flags_clear rfl rfl
  exact ⟨hardwareReset s, exec_hwReset s,
    rfl, hstorage.slot_eq_zero, rfl, rfl, rfl, rfl, rfl, rfl, rfl, rfl, rfl,
    fun _ => hstorage.byte_eq_zero, rfl, rfl, rfl, rfl, rfl, rfl, rfl, rfl, rfl, rfl, rfl,
    rfl, rfl, rfl, rfl, rfl, rfl,
    rfl, hirq, cfgOverlap_hardwareReset s, rfl, rfl, hstatus⟩

end Sys2Proof.Machine
end

section
/-! The state that no operation but `HW_RESET` clears (70_reset_and_hazards.md R310): the timer and the sequence
number. -/

namespace Sys2Proof.Machine

theorem DemOnly.ts {s t : State} (h : DemOnly s t) : t.ts = s.ts := by rw [h]

/-- `TICK` is the one operation but `HW_RESET` that writes the timer: an edge and a pulse only read it or leave it
alone, and the soft reset keeps it (10_state.md R22, 40_edge_capture.md R141, R142). -/
theorem Effect.ts_cases {i : Instr} {s t : State} (h : Effect i s t) :
    i = .hwReset ∨ (∃ k, i = .tick k ∧ t.ts = s.ts + k) ∨ t.ts = s.ts := by
  cases h
  case hwReset => exact .inl rfl
  case tick k => exact .inr (.inl ⟨k, rfl, rfl⟩)
  case edge lvl => exact .inr (.inr (by rw [edgeStep_frame]))
  case consume => exact .inr (.inr (basPulse_demOnly _ _ (takeEntry s)).ts)
  case pulse p d _ _ => exact .inr (.inr (basPulse_demOnly p d s).ts)
  case packet f bs r _ => exact .inr (.inr (validateAndAccept_decodeOnly f bs r .count s).demOnly.ts)
  all_goals exact .inr (.inr rfl)

/-- Settles O24: `RES_SEQ` is the same where no record is brought to the port. -/
theorem onlyResetClearsTimerAndSequence : Obligations.OnlyResetClearsTimerAndSequence := by
  intro i s t hexec hreset
  have heffect := exec_effect hexec
  refine ⟨?_, ?_⟩
  · rcases heffect.ts_cases with hhw | htick | hsame
    · exact absurd hhw hreset
    · exact .inr htick
    · exact .inl hsame
  · rcases heffect.recordEffect hreset with ⟨hnone, _⟩ | hone
    · exact .inl hnone.resSeq
    · exact .inr ⟨hone.resSeq, hone.frameOkCount, hone.resNew, hone.recPort⟩

end Sys2Proof.Machine
end
